-- ==== Sys2Proof/Word.lean ====
section
/-! DEFINITION. The byte, the four widths of the spec's values, and a value that carries its width (spec 00_scope.md R7, R8). -/

namespace Sys2Proof

/-- A byte is 8 bits, bit 0 the least significant (R7, R8). -/
abbrev Byte := BitVec 8

/-- The widths of immediates, displacements and operands (R8, R38, R46), ordered 8 < 16 < 32 < 64. -/
inductive Width where
  | w8 | w16 | w32 | w64
deriving DecidableEq, Repr

/-- The number of bits of a width. -/
def Width.bits : Width → Nat
  | .w8 => 8
  | .w16 => 16
  | .w32 => 32
  | .w64 => 64

/-- The number of bytes of a width. -/
def Width.bytes : Width → Nat
  | .w8 => 1
  | .w16 => 2
  | .w32 => 4
  | .w64 => 8

/-- A bit vector of one of the four widths: the (width, value) pair of R38. -/
inductive Sized where
  | b8 (v : BitVec 8)
  | b16 (v : BitVec 16)
  | b32 (v : BitVec 32)
  | b64 (v : BitVec 64)
deriving DecidableEq, Repr

/-- The width of a sized value. -/
def Sized.width : Sized → Width
  | .b8 _ => .w8
  | .b16 _ => .w16
  | .b32 _ => .w32
  | .b64 _ => .w64

/-- The value as an unsigned number. -/
def Sized.toNat : Sized → Nat
  | .b8 v => v.toNat
  | .b16 v => v.toNat
  | .b32 v => v.toNat
  | .b64 v => v.toNat

end Sys2Proof
end

