-- ==== Sys2Proof/Config.lean ====
section
/-! DEFINITION. The implementation parameters of spec 00_scope.md R6. BUF_LEN is a field of the buffer in State and POS_WIDTH is unbounded (log 13). The spec leaves no output value open, so there is no free value. -/

namespace Sys2Proof

/-- CPU_MODES: the addressing and operand-width regime of a transaction (R6, 10_state.md R22). -/
inductive CpuMode where
  | m16 | m32 | m64
deriving DecidableEq, Repr

namespace Config

/-- PREFIX_CAP: at most 3 legacy prefixes accumulate per instruction (R6). -/
def prefixCap : Nat := 3

/-- MAX_OPERANDS: 4 operand slots per instruction (R6). -/
def maxOperands : Nat := 4

/-- GPR_COUNT(mode): the register numbers of a mode (R6, 10_state.md R22). -/
def gprCount : CpuMode → Nat
  | .m16 => 8
  | .m32 => 8
  | .m64 => 16

/-- The length in bytes of the longest covered instruction (30_encoding.md R115); the block does not check it. -/
def maxLength : Nat := 15

/-- The mode State.reset holds; the spec makes the mode an argument of every transaction (DESIGN CHOICE, unsafe, log 6). -/
def resetMode : CpuMode := .m32

end Config

end Sys2Proof
end

