-- ==== Sys2Proof/Syntax.lean ====
section
/-! DEFINITION. The names the block works with (prefixes, REX, registers, identities, encodings, templates) and Instr, one constructor per row of spec/opcode_table.json. -/

namespace Sys2Proof

/-- The 11 legacy prefix tags (10_state.md R32). -/
inductive Prefix where
  | lock | repNE | rep
  | segES | segCS | segSS | segDS | segFS | segGS
  | operandSizeOverride | addressSizeOverride
deriving DecidableEq, Repr

/-- The REX record: four 1-bit fields (10_state.md R34, 30_encoding.md R83). Its raw byte is `Rex.raw`. -/
structure Rex where
  w : Bool
  r : Bool
  x : Bool
  b : Bool
deriving DecidableEq, Repr

/-- The general registers the block can name: the table of 10_state.md R23. -/
inductive Reg where
  | al | cl | dl | bl
  | ah | ch | dh | bh
  | spl | bpl | sil | dil
  | r8b | r9b | r10b | r11b | r12b | r13b | r14b | r15b
  | ax | cx | dx | bx | sp | bp | si | di
  | r8w | r9w | r10w | r11w | r12w | r13w | r14w | r15w
  | eax | ecx | edx | ebx | esp | ebp | esi | edi
  | r8d | r9d | r10d | r11d | r12d | r13d | r14d | r15d
  | rax | rcx | rdx | rbx | rsp | rbp | rsi | rdi
  | r8 | r9 | r10 | r11 | r12 | r13 | r14 | r15
deriving DecidableEq, Repr

/-- The six segment registers in the order of 10_state.md R29. -/
inductive SegReg where
  | es | cs | ss | ds | fs | gs
deriving DecidableEq, Repr

/-- The 16 register families (10_state.md R24, 90_conflicts.md C1). -/
inductive Family where
  | accumulator | counter | data | base
  | stackPointer | basePointer | source | destination
  | r8 | r9 | r10 | r11 | r12 | r13 | r14 | r15
deriving DecidableEq, Repr

/-- The source's size enumeration (10_state.md R30). -/
inductive OpSize where
  | u8 | i8 | u16 | i16 | u32 | i32 | u64 | i64 | cpuMode
deriving DecidableEq, Repr

/-- An effective operand size, 16, 32 or 64 (10_state.md R41, 40_decode_pipeline.md R145). -/
inductive OperandSize where
  | o16 | o32 | o64
deriving DecidableEq, Repr

/-- An address size, 16, 32 or 64 (10_state.md R30, 40_decode_pipeline.md R146). -/
inductive AddrSize where
  | a16 | a32 | a64
deriving DecidableEq, Repr

/-- The identity of a completed instruction (10_state.md R35). The pass-through identities Prefix(p) and Rex(r) and the
intermediate NeedsModRMExtension are never terminal: they are the prefix rows, the REX row and `MapCell.needsExt`. -/
inductive OpcodeIdentity where
  | add | or | adc | sbb | and | sub | cmp | xor
  | lea | inc | dec
  | callNear | callFar | jmpNear | jmpFar
  | push | mov | endBr32 | endBr64
  | unknown
deriving DecidableEq, Repr

/-- OperandEncoding (30_encoding.md R103). -/
inductive Encoding where
  | I | MR | RM | MI | M | O | ZO
deriving DecidableEq, Repr

/-- The size classes of 30_encoding.md R104; operand type D has no meaning and no constructor (R105, D50). -/
inductive SizeClass where
  | B | V | Z | P
deriving DecidableEq, Repr

/-- The operand template kinds of 30_encoding.md R104. -/
inductive Template where
  | E (c : SizeClass)
  | M (c : SizeClass)
  | G (c : SizeClass)
  | I (c : SizeClass)
  | O (c : SizeClass)
  | Fixed (r : Reg)
  | Family (f : Sys2Proof.Family) (c : SizeClass)
  | Seg (s : SegReg)
deriving DecidableEq, Repr

/-- An entry of the opcode table: identity, encoding and templates (40_decode_pipeline.md R136). -/
structure Entry where
  identity : OpcodeIdentity
  encoding : Encoding
  templates : List Template
deriving DecidableEq, Repr

/-- The ModR/M-extension opcodes 0x80, 0x81, 0x82, 0x83 and 0xFF (30_encoding.md R106). -/
inductive ExtOpcode where
  | x80 | x81 | x82 | x83 | xFF
deriving DecidableEq, Repr

/-- One row of the opcode table: what one lookup of 40_decode_pipeline.md R133, R134 and R136 to R139 can yield. A row carries
the bits of its own opcode bytes that are operands (the register of an O row, the REX bits, the bytes an escape error
reports); the ModR/M, SIB, displacement and immediate bytes that follow the opcode are read by the row's meaning through the
cursor, since "The lookup reads no byte beyond b" (R136). The names follow spec/opcode_table.json; 80 and 82 at the end of a
name tell apart the rows of opcodes 0x80 and 0x82, which share a mnemonic. -/
inductive Instr where
  /-- `Add_Eb__Gb`, R200. -/
  | addEbGb
  /-- `Add_Ev__Gv`, R201. -/
  | addEvGv
  /-- `Add_Gb__Eb`, R202. -/
  | addGbEb
  /-- `Add_Gv__Ev`, R203. -/
  | addGvEv
  /-- `Add_AL__Ib`, R204. -/
  | addALIb
  /-- `Add_rAX__Iz`, R205. -/
  | addRAXIz
  /-- `Or_Eb__Gb`, R206. -/
  | orEbGb
  /-- `Or_Ev__Gv`, R207. -/
  | orEvGv
  /-- `Or_Gb__Eb`, R208. -/
  | orGbEb
  /-- `Or_Gv__Ev`, R209. -/
  | orGvEv
  /-- `Or_AL__Ib`, R210. -/
  | orALIb
  /-- `Or_rAX__Iz`, R211. -/
  | orRAXIz
  /-- `Adc_Eb__Gb`, R212. -/
  | adcEbGb
  /-- `Adc_Ev__Gv`, R213. -/
  | adcEvGv
  /-- `Adc_Gb__Eb`, R214. -/
  | adcGbEb
  /-- `Adc_Gv__Ev`, R215. -/
  | adcGvEv
  /-- `Adc_AL__Ib`, R216. -/
  | adcALIb
  /-- `Adc_rAX__Iz`, R217. -/
  | adcRAXIz
  /-- `Sbb_Eb__Gb`, R218. -/
  | sbbEbGb
  /-- `Sbb_Ev__Gv`, R219. -/
  | sbbEvGv
  /-- `Sbb_Gb__Eb`, R220. -/
  | sbbGbEb
  /-- `Sbb_Gv__Ev`, R221. -/
  | sbbGvEv
  /-- `Sbb_AL__Ib`, R222. -/
  | sbbALIb
  /-- `Sbb_rAX__Iz`, R223. -/
  | sbbRAXIz
  /-- `And_Eb__Gb`, R224. -/
  | andEbGb
  /-- `And_Ev__Gv`, R225. -/
  | andEvGv
  /-- `And_Gb__Eb`, R226. -/
  | andGbEb
  /-- `And_Gv__Ev`, R227. -/
  | andGvEv
  /-- `And_AL__Ib`, R228. -/
  | andALIb
  /-- `And_rAX__Iz`, R229. -/
  | andRAXIz
  /-- `Sub_Eb__Gb`, R230. -/
  | subEbGb
  /-- `Sub_Ev__Gv`, R231. -/
  | subEvGv
  /-- `Sub_Gb__Eb`, R232. -/
  | subGbEb
  /-- `Sub_Gv__Ev`, R233. -/
  | subGvEv
  /-- `Sub_AL__Ib`, R234. -/
  | subALIb
  /-- `Sub_rAX__Iz`, R235. -/
  | subRAXIz
  /-- `Xor_Eb__Gb`, R236. -/
  | xorEbGb
  /-- `Xor_Ev__Gv`, R237. -/
  | xorEvGv
  /-- `Xor_Gb__Eb`, R238. -/
  | xorGbEb
  /-- `Xor_Gv__Ev`, R239. -/
  | xorGvEv
  /-- `Xor_AL__Ib`, R240. -/
  | xorALIb
  /-- `Xor_rAX__Iz`, R241. -/
  | xorRAXIz
  /-- `Cmp_Eb__Gb`, R242. -/
  | cmpEbGb
  /-- `Cmp_Ev__Gv`, R243. -/
  | cmpEvGv
  /-- `Cmp_Gb__Eb`, R244. -/
  | cmpGbEb
  /-- `Cmp_Gv__Ev`, R245. -/
  | cmpGvEv
  /-- `Cmp_AL__Ib`, R246. -/
  | cmpALIb
  /-- `Cmp_rAX__Iz`, R247. -/
  | cmpRAXIz
  /-- `Add_Eb__Ib`, R250. -/
  | addEbIb80
  /-- `Or_Eb__Ib`, R251. -/
  | orEbIb80
  /-- `Adc_Eb__Ib`, R252. -/
  | adcEbIb80
  /-- `Sbb_Eb__Ib`, R253. -/
  | sbbEbIb80
  /-- `And_Eb__Ib`, R254. -/
  | andEbIb80
  /-- `Sub_Eb__Ib`, R255. -/
  | subEbIb80
  /-- `Xor_Eb__Ib`, R256. -/
  | xorEbIb80
  /-- `Cmp_Eb__Ib`, R257. -/
  | cmpEbIb80
  /-- `Add_Ev__Iz`, R258. -/
  | addEvIz
  /-- `Or_Ev__Iz`, R259. -/
  | orEvIz
  /-- `Adc_Ev__Iz`, R260. -/
  | adcEvIz
  /-- `Sbb_Ev__Iz`, R261. -/
  | sbbEvIz
  /-- `And_Ev__Iz`, R262. -/
  | andEvIz
  /-- `Sub_Ev__Iz`, R263. -/
  | subEvIz
  /-- `Xor_Ev__Iz`, R264. -/
  | xorEvIz
  /-- `Cmp_Ev__Iz`, R265. -/
  | cmpEvIz
  /-- `Add_Eb__Ib`, R266. -/
  | addEbIb82
  /-- `Or_Eb__Ib`, R267. -/
  | orEbIb82
  /-- `Adc_Eb__Ib`, R268. -/
  | adcEbIb82
  /-- `Sbb_Eb__Ib`, R269. -/
  | sbbEbIb82
  /-- `And_Eb__Ib`, R270. -/
  | andEbIb82
  /-- `Sub_Eb__Ib`, R271. -/
  | subEbIb82
  /-- `Xor_Eb__Ib`, R272. -/
  | xorEbIb82
  /-- `Cmp_Eb__Ib`, R273. -/
  | cmpEbIb82
  /-- `Add_Ev__Ib`, R274. -/
  | addEvIb
  /-- `Or_Ev__Ib`, R275. -/
  | orEvIb
  /-- `Adc_Ev__Ib`, R276. -/
  | adcEvIb
  /-- `Sbb_Ev__Ib`, R277. -/
  | sbbEvIb
  /-- `And_Ev__Ib`, R278. -/
  | andEvIb
  /-- `Sub_Ev__Ib`, R279. -/
  | subEvIb
  /-- `Xor_Ev__Ib`, R280. -/
  | xorEvIb
  /-- `Cmp_Ev__Ib`, R281. -/
  | cmpEvIb
  /-- `Inc_Ev`, R290. -/
  | incEv
  /-- `Dec_Ev`, R291. -/
  | decEv
  /-- `CallNear_Ev`, R292. -/
  | callNearEv
  /-- `CallFar_Mp`, R293. -/
  | callFarMp
  /-- `JmpNear_Ev`, R294. -/
  | jmpNearEv
  /-- `JmpFar_Mp`, R295. -/
  | jmpFarMp
  /-- `Push_Ev`, R296. -/
  | pushEv
  /-- `reserved_FF__7`, R297. -/
  | reservedFF7
  /-- `Mov_Ev__Gv`, R300. -/
  | movEvGv
  /-- `Lea_Gv__Mv`, R301. -/
  | leaGvMv
  /-- `Push_rv`, R302. -/
  | pushRv (r : BitVec 3)
  /-- `Inc_rv`, R304. -/
  | incRv (r : BitVec 3)
  /-- `Dec_rv`, R305. -/
  | decRv (r : BitVec 3)
  /-- `Push_ES`, R306. -/
  | pushES
  /-- `Push_CS`, R307. -/
  | pushCS
  /-- `Push_SS`, R308. -/
  | pushSS
  /-- `Push_DS`, R309. -/
  | pushDS
  /-- `EndBr64`, R311. -/
  | endBr64
  /-- `EndBr32`, R316. -/
  | endBr32
  /-- `escape__prefix_other_than_Rep`, R312. -/
  | escapePrefixOtherThanRep
  /-- `escape__no_prefix`, R313. -/
  | escapeNoPrefix (b2 : Byte)
  /-- `escape__Rep__second_byte_not_0x1E`, R314. -/
  | escapeRepSecondByte (b2 : Byte)
  /-- `escape__Rep__0F_1E__third_byte_not_FA_FB`, R315. -/
  | escapeRepThirdByte (b3 : Byte)
  /-- `prefix_Lock`, R180. -/
  | prefixLock
  /-- `prefix_RepNE`, R181. -/
  | prefixRepNE
  /-- `prefix_Rep`, R182. -/
  | prefixRep
  /-- `prefix_SegES`, R183. -/
  | prefixSegES
  /-- `prefix_SegCS`, R184. -/
  | prefixSegCS
  /-- `prefix_SegSS`, R185. -/
  | prefixSegSS
  /-- `prefix_SegDS`, R186. -/
  | prefixSegDS
  /-- `prefix_SegFS`, R187. -/
  | prefixSegFS
  /-- `prefix_SegGS`, R188. -/
  | prefixSegGS
  /-- `prefix_OperandSizeOverride`, R189. -/
  | prefixOperandSizeOverride
  /-- `prefix_AddressSizeOverride`, R190. -/
  | prefixAddressSizeOverride
  /-- `REX`, R191. -/
  | rex (w : Bool) (r : Bool) (x : Bool) (b : Bool)
  | unknown07 | unknown17 | unknown1F | unknown27 | unknown2F | unknown37 | unknown3F | unknown58
  | unknown59 | unknown5A | unknown5B | unknown5C | unknown5D | unknown5E | unknown5F | unknown60
  | unknown61 | unknown62 | unknown63 | unknown68 | unknown69 | unknown6A | unknown6B | unknown6C
  | unknown6D | unknown6E | unknown6F | unknown70 | unknown71 | unknown72 | unknown73 | unknown74
  | unknown75 | unknown76 | unknown77 | unknown78 | unknown79 | unknown7A | unknown7B | unknown7C
  | unknown7D | unknown7E | unknown7F | unknown84 | unknown85 | unknown86 | unknown87 | unknown88
  | unknown8A | unknown8B | unknown8C | unknown8E | unknown8F | unknown90 | unknown91 | unknown92
  | unknown93 | unknown94 | unknown95 | unknown96 | unknown97 | unknown98 | unknown99 | unknown9A
  | unknown9B | unknown9C | unknown9D | unknown9E | unknown9F | unknownA0 | unknownA1 | unknownA2
  | unknownA3 | unknownA4 | unknownA5 | unknownA6 | unknownA7 | unknownA8 | unknownA9 | unknownAA
  | unknownAB | unknownAC | unknownAD | unknownAE | unknownAF | unknownB0 | unknownB1 | unknownB2
  | unknownB3 | unknownB4 | unknownB5 | unknownB6 | unknownB7 | unknownB8 | unknownB9 | unknownBA
  | unknownBB | unknownBC | unknownBD | unknownBE | unknownBF | unknownC0 | unknownC1 | unknownC2
  | unknownC3 | unknownC4 | unknownC5 | unknownC6 | unknownC7 | unknownC8 | unknownC9 | unknownCA
  | unknownCB | unknownCC | unknownCD | unknownCE | unknownCF | unknownD0 | unknownD1 | unknownD2
  | unknownD3 | unknownD4 | unknownD5 | unknownD6 | unknownD7 | unknownD8 | unknownD9 | unknownDA
  | unknownDB | unknownDC | unknownDD | unknownDE | unknownDF | unknownE0 | unknownE1 | unknownE2
  | unknownE3 | unknownE4 | unknownE5 | unknownE6 | unknownE7 | unknownE8 | unknownE9 | unknownEA
  | unknownEB | unknownEC | unknownED | unknownEE | unknownEF | unknownF1 | unknownF4 | unknownF5
  | unknownF6 | unknownF7 | unknownF8 | unknownF9 | unknownFA | unknownFB | unknownFC | unknownFD
  | unknownFE
deriving DecidableEq, Repr

end Sys2Proof
end

