-- ==== Sys2Proof/WellFormed.lean ====
section
/-! DEFINITION. What makes a row, an entry and a prefix list well formed, and in which decode context a row can occur. -/

namespace Sys2Proof

/-- What of the transaction a lookup depends on: the CPU mode (30_encoding.md R84, R113) and the prefix list P (46_escape.md R310). -/
structure Ctx where
  mode : CpuMode
  prefixes : List Prefix
deriving DecidableEq, Repr

/-- P is non-empty and every tag in it is Rep: the condition of the escape path (46_escape.md R310). -/
def allRep (ps : List Prefix) : Bool := !ps.isEmpty && ps.all (· == .rep)

/-- Some tag of P is not Rep (46_escape.md R312). -/
def someNotRep (ps : List Prefix) : Bool := ps.any (· != .rep)

/-- A prefix list is legal when it is no longer than PREFIX_CAP (10_state.md R33). -/
def prefixesWf (ps : List Prefix) : Bool := decide (ps.length ≤ Config.prefixCap)

/-- The operand bytes a row carries are bytes its encoding admits: the second byte of R314 is not 0x1E, the third byte of R315
is neither 0xFA nor 0xFB. Every other row admits every value of its fields. -/
def Instr.wf : Instr → Bool
  | .escapeRepSecondByte b2 => b2 != 0x1E#8
  | .escapeRepThirdByte b3 => b3 != 0xFA#8 && b3 != 0xFB#8
  | _ => true

/-- The contexts in which a row occurs: REX only in 64-bit mode and Inc/Dec 0x40-0x4F only outside it (30_encoding.md R84), the
escape rows by the prefix list (46_escape.md R310). Every other row decodes in every context. -/
def Instr.fits (c : Ctx) : Instr → Bool
  | .incRv _ | .decRv _ => c.mode != .m64
  | .rex _ _ _ _ => c.mode == .m64
  | .escapeNoPrefix _ => c.prefixes.isEmpty
  | .escapePrefixOtherThanRep => someNotRep c.prefixes
  | .escapeRepSecondByte _ | .escapeRepThirdByte _ | .endBr64 | .endBr32 => allRep c.prefixes
  | _ => true

/-- An encoding that consumes a ModR/M byte (30_encoding.md R99, R103). -/
def Encoding.hasModRM : Encoding → Bool
  | .M | .MI | .MR | .RM => true
  | .I | .O | .ZO => false

/-- A template that reads the ModR/M record (10_state.md R49). -/
def Template.readsModRM : Template → Bool
  | .E _ | .M _ | .G _ => true
  | .I _ | .O _ | .Fixed _ | .Family _ _ | .Seg _ => false

/-- The invariant of 10_state.md R49, with at most MAX_OPERANDS templates (R6). -/
def Entry.wf (e : Entry) : Bool :=
  decide (e.templates.length ≤ Config.maxOperands)
    && (e.encoding.hasModRM || e.templates.all fun t => !t.readsModRM)

end Sys2Proof
end

