-- ==== Sys2Proof/Decode.lean ====
section
/-! DEFINITION. The opcode-table lookup: from bytes to a row, total on any bytes, with the encoder after it (30_encoding.md, 40_decode_pipeline.md R132 to R139, 46_escape.md R310). -/

namespace Sys2Proof

/-- The bit-field `v[hi:lo]` of R7, given by its low bit and its width. -/
def bits (v : Byte) (lo width : Nat) : BitVec width := v.extractLsb' lo width

/-- The entry at index n of a table of 2^w entries. -/
def pick {α : Type} {w : Nat} (table : List α) (n : BitVec w) (h : table.length = 2 ^ w) : α :=
  table.get ⟨n.toNat, h ▸ n.isLt⟩

/-- The legacy prefix bytes (30_encoding.md R81). -/
def Prefix.byte : Prefix → Byte
  | .lock => 0xF0
  | .repNE => 0xF2
  | .rep => 0xF3
  | .segES => 0x26
  | .segCS => 0x2E
  | .segSS => 0x36
  | .segDS => 0x3E
  | .segFS => 0x64
  | .segGS => 0x65
  | .operandSizeOverride => 0x66
  | .addressSizeOverride => 0x67

/-- All prefix tags, in the order of R81. -/
def Prefix.all : List Prefix :=
  [.lock, .repNE, .rep, .segES, .segCS, .segSS, .segDS, .segFS, .segGS, .operandSizeOverride, .addressSizeOverride]

/-- `classify_prefix` (30_encoding.md R82): the tag of a legacy prefix byte, none for every other byte. -/
def classifyPrefix (b : Byte) : Option Prefix := Prefix.all.find? fun p => p.byte == b

/-- The REX record of a byte 0100WRXB (30_encoding.md R83). -/
def Rex.ofByte (b : Byte) : Rex where
  w := b.getLsbD 3
  r := b.getLsbD 2
  x := b.getLsbD 1
  b := b.getLsbD 0

/-- The raw byte 0100WRXB of a REX record (10_state.md R34, 30_encoding.md R83). -/
def Rex.raw (r : Rex) : Byte :=
  0b0100#4 ++ BitVec.ofBool r.w ++ BitVec.ofBool r.r ++ BitVec.ofBool r.x ++ BitVec.ofBool r.b

/-- `classify_rex` (30_encoding.md R83): bytes 0x40 to 0x4F give a REX record, all others none. -/
def classifyRex (b : Byte) : Option Rex := if bits b 4 4 = 0b0100#4 then some (Rex.ofByte b) else none

/-- What the one-byte map holds at a byte: a row, the escape, or a ModR/M-extension opcode (40_decode_pipeline.md R136). -/
inductive MapCell where
  | row (i : Instr)
  | escape
  | needsExt (g : ExtOpcode)
deriving DecidableEq, Repr

/-- Row 0x of the one-byte map (R109). -/
def mapRow0 : List MapCell :=
  [.row .addEbGb, .row .addEvGv, .row .addGbEb, .row .addGvEv,
   .row .addALIb, .row .addRAXIz, .row .pushES, .row .unknown07,
   .row .orEbGb, .row .orEvGv, .row .orGbEb, .row .orGvEv,
   .row .orALIb, .row .orRAXIz, .row .pushCS, .escape]

/-- Row 1x of the one-byte map (R109). -/
def mapRow1 : List MapCell :=
  [.row .adcEbGb, .row .adcEvGv, .row .adcGbEb, .row .adcGvEv,
   .row .adcALIb, .row .adcRAXIz, .row .pushSS, .row .unknown17,
   .row .sbbEbGb, .row .sbbEvGv, .row .sbbGbEb, .row .sbbGvEv,
   .row .sbbALIb, .row .sbbRAXIz, .row .pushDS, .row .unknown1F]

/-- Row 2x of the one-byte map (R109). -/
def mapRow2 : List MapCell :=
  [.row .andEbGb, .row .andEvGv, .row .andGbEb, .row .andGvEv,
   .row .andALIb, .row .andRAXIz, .row .prefixSegES, .row .unknown27,
   .row .subEbGb, .row .subEvGv, .row .subGbEb, .row .subGvEv,
   .row .subALIb, .row .subRAXIz, .row .prefixSegCS, .row .unknown2F]

/-- Row 3x of the one-byte map (R109). -/
def mapRow3 : List MapCell :=
  [.row .xorEbGb, .row .xorEvGv, .row .xorGbEb, .row .xorGvEv,
   .row .xorALIb, .row .xorRAXIz, .row .prefixSegSS, .row .unknown37,
   .row .cmpEbGb, .row .cmpEvGv, .row .cmpGbEb, .row .cmpGvEv,
   .row .cmpALIb, .row .cmpRAXIz, .row .prefixSegDS, .row .unknown3F]

/-- Row 4x of the one-byte map (R109). -/
def mapRow4 : List MapCell :=
  [.row (.incRv 0), .row (.incRv 1), .row (.incRv 2), .row (.incRv 3),
   .row (.incRv 4), .row (.incRv 5), .row (.incRv 6), .row (.incRv 7),
   .row (.decRv 0), .row (.decRv 1), .row (.decRv 2), .row (.decRv 3),
   .row (.decRv 4), .row (.decRv 5), .row (.decRv 6), .row (.decRv 7)]

/-- Row 5x of the one-byte map (R109). -/
def mapRow5 : List MapCell :=
  [.row (.pushRv 0), .row (.pushRv 1), .row (.pushRv 2), .row (.pushRv 3),
   .row (.pushRv 4), .row (.pushRv 5), .row (.pushRv 6), .row (.pushRv 7),
   .row .unknown58, .row .unknown59, .row .unknown5A, .row .unknown5B,
   .row .unknown5C, .row .unknown5D, .row .unknown5E, .row .unknown5F]

/-- Row 6x of the one-byte map (R109). -/
def mapRow6 : List MapCell :=
  [.row .unknown60, .row .unknown61, .row .unknown62, .row .unknown63,
   .row .prefixSegFS, .row .prefixSegGS, .row .prefixOperandSizeOverride, .row .prefixAddressSizeOverride,
   .row .unknown68, .row .unknown69, .row .unknown6A, .row .unknown6B,
   .row .unknown6C, .row .unknown6D, .row .unknown6E, .row .unknown6F]

/-- Row 7x of the one-byte map (R109). -/
def mapRow7 : List MapCell :=
  [.row .unknown70, .row .unknown71, .row .unknown72, .row .unknown73,
   .row .unknown74, .row .unknown75, .row .unknown76, .row .unknown77,
   .row .unknown78, .row .unknown79, .row .unknown7A, .row .unknown7B,
   .row .unknown7C, .row .unknown7D, .row .unknown7E, .row .unknown7F]

/-- Row 8x of the one-byte map (R109). -/
def mapRow8 : List MapCell :=
  [.needsExt .x80, .needsExt .x81, .needsExt .x82, .needsExt .x83,
   .row .unknown84, .row .unknown85, .row .unknown86, .row .unknown87,
   .row .unknown88, .row .movEvGv, .row .unknown8A, .row .unknown8B,
   .row .unknown8C, .row .leaGvMv, .row .unknown8E, .row .unknown8F]

/-- Row 9x of the one-byte map (R109). -/
def mapRow9 : List MapCell :=
  [.row .unknown90, .row .unknown91, .row .unknown92, .row .unknown93,
   .row .unknown94, .row .unknown95, .row .unknown96, .row .unknown97,
   .row .unknown98, .row .unknown99, .row .unknown9A, .row .unknown9B,
   .row .unknown9C, .row .unknown9D, .row .unknown9E, .row .unknown9F]

/-- Row Ax of the one-byte map (R109). -/
def mapRowA : List MapCell :=
  [.row .unknownA0, .row .unknownA1, .row .unknownA2, .row .unknownA3,
   .row .unknownA4, .row .unknownA5, .row .unknownA6, .row .unknownA7,
   .row .unknownA8, .row .unknownA9, .row .unknownAA, .row .unknownAB,
   .row .unknownAC, .row .unknownAD, .row .unknownAE, .row .unknownAF]

/-- Row Bx of the one-byte map (R109). -/
def mapRowB : List MapCell :=
  [.row .unknownB0, .row .unknownB1, .row .unknownB2, .row .unknownB3,
   .row .unknownB4, .row .unknownB5, .row .unknownB6, .row .unknownB7,
   .row .unknownB8, .row .unknownB9, .row .unknownBA, .row .unknownBB,
   .row .unknownBC, .row .unknownBD, .row .unknownBE, .row .unknownBF]

/-- Row Cx of the one-byte map (R109). -/
def mapRowC : List MapCell :=
  [.row .unknownC0, .row .unknownC1, .row .unknownC2, .row .unknownC3,
   .row .unknownC4, .row .unknownC5, .row .unknownC6, .row .unknownC7,
   .row .unknownC8, .row .unknownC9, .row .unknownCA, .row .unknownCB,
   .row .unknownCC, .row .unknownCD, .row .unknownCE, .row .unknownCF]

/-- Row Dx of the one-byte map (R109). -/
def mapRowD : List MapCell :=
  [.row .unknownD0, .row .unknownD1, .row .unknownD2, .row .unknownD3,
   .row .unknownD4, .row .unknownD5, .row .unknownD6, .row .unknownD7,
   .row .unknownD8, .row .unknownD9, .row .unknownDA, .row .unknownDB,
   .row .unknownDC, .row .unknownDD, .row .unknownDE, .row .unknownDF]

/-- Row Ex of the one-byte map (R109). -/
def mapRowE : List MapCell :=
  [.row .unknownE0, .row .unknownE1, .row .unknownE2, .row .unknownE3,
   .row .unknownE4, .row .unknownE5, .row .unknownE6, .row .unknownE7,
   .row .unknownE8, .row .unknownE9, .row .unknownEA, .row .unknownEB,
   .row .unknownEC, .row .unknownED, .row .unknownEE, .row .unknownEF]

/-- Row Fx of the one-byte map (R109). -/
def mapRowF : List MapCell :=
  [.row .prefixLock, .row .unknownF1, .row .prefixRepNE, .row .prefixRep,
   .row .unknownF4, .row .unknownF5, .row .unknownF6, .row .unknownF7,
   .row .unknownF8, .row .unknownF9, .row .unknownFA, .row .unknownFB,
   .row .unknownFC, .row .unknownFD, .row .unknownFE, .needsExt .xFF]

/-- Row `hi` of the one-byte map of 30_encoding.md R109; 0x40 to 0x4F stand as outside 64-bit mode. -/
def mapRow (hi : BitVec 4) : List MapCell :=
  pick [mapRow0, mapRow1, mapRow2, mapRow3, mapRow4, mapRow5, mapRow6, mapRow7,
        mapRow8, mapRow9, mapRowA, mapRowB, mapRowC, mapRowD, mapRowE, mapRowF] hi rfl

theorem mapRow_length : ∀ hi : BitVec 4, (mapRow hi).length = 2 ^ 4 := by decide

/-- The cell of the one-byte map at a byte; the map is total (30_encoding.md R85). -/
def mapCell (b : Byte) : MapCell := pick (mapRow (bits b 4 4)) (bits b 0 4) (mapRow_length _)

/-- The lookup of one byte in a mode: REX in 64-bit mode, else the one-byte map (30_encoding.md R84, R109). -/
def lookup (mode : CpuMode) (b : Byte) : MapCell :=
  match mode, classifyRex b with
  | .m64, some r => .row (.rex r.w r.r r.x r.b)
  | _, _ => mapCell b

/-- The extension tables of 30_encoding.md R107 and R108, /0 to /7. -/
def extensionTable : ExtOpcode → List Instr
  | .x80 => [.addEbIb80, .orEbIb80, .adcEbIb80, .sbbEbIb80, .andEbIb80, .subEbIb80, .xorEbIb80, .cmpEbIb80]
  | .x81 => [.addEvIz, .orEvIz, .adcEvIz, .sbbEvIz, .andEvIz, .subEvIz, .xorEvIz, .cmpEvIz]
  | .x82 => [.addEbIb82, .orEbIb82, .adcEbIb82, .sbbEbIb82, .andEbIb82, .subEbIb82, .xorEbIb82, .cmpEbIb82]
  | .x83 => [.addEvIb, .orEvIb, .adcEvIb, .sbbEvIb, .andEvIb, .subEvIb, .xorEvIb, .cmpEvIb]
  | .xFF => [.incEv, .decEv, .callNearEv, .callFarMp, .jmpNearEv, .jmpFarMp, .pushEv, .reservedFF7]

/-- `convert_with_ext` (40_decode_pipeline.md R139): the row of an extension opcode and its 3-bit extension. -/
def extensionRow (g : ExtOpcode) (ext : BitVec 3) : Instr :=
  pick (extensionTable g) ext (by cases g <;> rfl)

/-- Why no row is found: a byte the lookup needs is missing after `consumed` bytes of the row were read (60_exceptions.md R401). -/
inductive Reject where
  | notEnoughBytes (consumed : Nat)
deriving DecidableEq, Repr

/-- The escape dispatch of 46_escape.md R310 on the bytes after 0x0F. -/
def decodeEscape (ps : List Prefix) (rest : List Byte) : Except Reject Instr :=
  if someNotRep ps then .ok .escapePrefixOtherThanRep
  else match rest with
    | [] => .error (.notEnoughBytes 1)
    | b2 :: rest2 =>
      if ps.isEmpty then .ok (.escapeNoPrefix b2)
      else if b2 = 0x1E#8 then
        match rest2 with
        | [] => .error (.notEnoughBytes 2)
        | b3 :: _ =>
          if b3 = 0xFA#8 then .ok .endBr64
          else if b3 = 0xFB#8 then .ok .endBr32
          else .ok (.escapeRepThirdByte b3)
      else .ok (.escapeRepSecondByte b2)

/-- One lookup in the opcode table (40_decode_pipeline.md R133, R134, R136 to R139): the row the bytes begin with. The
extension byte is peeked, so only its reg field is read here (R138). -/
def decode (c : Ctx) : List Byte → Except Reject Instr
  | [] => .error (.notEnoughBytes 0)
  | b :: rest =>
    match lookup c.mode b with
    | .row i => .ok i
    | .escape => decodeEscape c.prefixes rest
    | .needsExt g =>
      match rest with
      | [] => .error (.notEnoughBytes 1)
      | m :: _ => .ok (extensionRow g (bits m 3 3))

/-- The opcode bytes of a row, from the same tables (30_encoding.md R81, R83, R107 to R109, 46_escape.md). A ModR/M-extension
row is told by two bytes, its opcode and the reg field of the ModR/M byte that follows; the other bits of that byte are no part
of the row and are 0 here (log 22). -/
def encode : Instr → List Byte
  | .addEbGb => [0x00]
  | .addEvGv => [0x01]
  | .addGbEb => [0x02]
  | .addGvEv => [0x03]
  | .addALIb => [0x04]
  | .addRAXIz => [0x05]
  | .orEbGb => [0x08]
  | .orEvGv => [0x09]
  | .orGbEb => [0x0A]
  | .orGvEv => [0x0B]
  | .orALIb => [0x0C]
  | .orRAXIz => [0x0D]
  | .adcEbGb => [0x10]
  | .adcEvGv => [0x11]
  | .adcGbEb => [0x12]
  | .adcGvEv => [0x13]
  | .adcALIb => [0x14]
  | .adcRAXIz => [0x15]
  | .sbbEbGb => [0x18]
  | .sbbEvGv => [0x19]
  | .sbbGbEb => [0x1A]
  | .sbbGvEv => [0x1B]
  | .sbbALIb => [0x1C]
  | .sbbRAXIz => [0x1D]
  | .andEbGb => [0x20]
  | .andEvGv => [0x21]
  | .andGbEb => [0x22]
  | .andGvEv => [0x23]
  | .andALIb => [0x24]
  | .andRAXIz => [0x25]
  | .subEbGb => [0x28]
  | .subEvGv => [0x29]
  | .subGbEb => [0x2A]
  | .subGvEv => [0x2B]
  | .subALIb => [0x2C]
  | .subRAXIz => [0x2D]
  | .xorEbGb => [0x30]
  | .xorEvGv => [0x31]
  | .xorGbEb => [0x32]
  | .xorGvEv => [0x33]
  | .xorALIb => [0x34]
  | .xorRAXIz => [0x35]
  | .cmpEbGb => [0x38]
  | .cmpEvGv => [0x39]
  | .cmpGbEb => [0x3A]
  | .cmpGvEv => [0x3B]
  | .cmpALIb => [0x3C]
  | .cmpRAXIz => [0x3D]
  | .addEbIb80 => [0x80, 0b00_000_000]
  | .orEbIb80 => [0x80, 0b00_001_000]
  | .adcEbIb80 => [0x80, 0b00_010_000]
  | .sbbEbIb80 => [0x80, 0b00_011_000]
  | .andEbIb80 => [0x80, 0b00_100_000]
  | .subEbIb80 => [0x80, 0b00_101_000]
  | .xorEbIb80 => [0x80, 0b00_110_000]
  | .cmpEbIb80 => [0x80, 0b00_111_000]
  | .addEvIz => [0x81, 0b00_000_000]
  | .orEvIz => [0x81, 0b00_001_000]
  | .adcEvIz => [0x81, 0b00_010_000]
  | .sbbEvIz => [0x81, 0b00_011_000]
  | .andEvIz => [0x81, 0b00_100_000]
  | .subEvIz => [0x81, 0b00_101_000]
  | .xorEvIz => [0x81, 0b00_110_000]
  | .cmpEvIz => [0x81, 0b00_111_000]
  | .addEbIb82 => [0x82, 0b00_000_000]
  | .orEbIb82 => [0x82, 0b00_001_000]
  | .adcEbIb82 => [0x82, 0b00_010_000]
  | .sbbEbIb82 => [0x82, 0b00_011_000]
  | .andEbIb82 => [0x82, 0b00_100_000]
  | .subEbIb82 => [0x82, 0b00_101_000]
  | .xorEbIb82 => [0x82, 0b00_110_000]
  | .cmpEbIb82 => [0x82, 0b00_111_000]
  | .addEvIb => [0x83, 0b00_000_000]
  | .orEvIb => [0x83, 0b00_001_000]
  | .adcEvIb => [0x83, 0b00_010_000]
  | .sbbEvIb => [0x83, 0b00_011_000]
  | .andEvIb => [0x83, 0b00_100_000]
  | .subEvIb => [0x83, 0b00_101_000]
  | .xorEvIb => [0x83, 0b00_110_000]
  | .cmpEvIb => [0x83, 0b00_111_000]
  | .incEv => [0xFF, 0b00_000_000]
  | .decEv => [0xFF, 0b00_001_000]
  | .callNearEv => [0xFF, 0b00_010_000]
  | .callFarMp => [0xFF, 0b00_011_000]
  | .jmpNearEv => [0xFF, 0b00_100_000]
  | .jmpFarMp => [0xFF, 0b00_101_000]
  | .pushEv => [0xFF, 0b00_110_000]
  | .reservedFF7 => [0xFF, 0b00_111_000]
  | .movEvGv => [0x89]
  | .leaGvMv => [0x8D]
  | .pushES => [0x06]
  | .pushCS => [0x0E]
  | .pushSS => [0x16]
  | .pushDS => [0x1E]
  | .unknown07 => [0x07]
  | .unknown17 => [0x17]
  | .unknown1F => [0x1F]
  | .unknown27 => [0x27]
  | .unknown2F => [0x2F]
  | .unknown37 => [0x37]
  | .unknown3F => [0x3F]
  | .unknown58 => [0x58]
  | .unknown59 => [0x59]
  | .unknown5A => [0x5A]
  | .unknown5B => [0x5B]
  | .unknown5C => [0x5C]
  | .unknown5D => [0x5D]
  | .unknown5E => [0x5E]
  | .unknown5F => [0x5F]
  | .unknown60 => [0x60]
  | .unknown61 => [0x61]
  | .unknown62 => [0x62]
  | .unknown63 => [0x63]
  | .unknown68 => [0x68]
  | .unknown69 => [0x69]
  | .unknown6A => [0x6A]
  | .unknown6B => [0x6B]
  | .unknown6C => [0x6C]
  | .unknown6D => [0x6D]
  | .unknown6E => [0x6E]
  | .unknown6F => [0x6F]
  | .unknown70 => [0x70]
  | .unknown71 => [0x71]
  | .unknown72 => [0x72]
  | .unknown73 => [0x73]
  | .unknown74 => [0x74]
  | .unknown75 => [0x75]
  | .unknown76 => [0x76]
  | .unknown77 => [0x77]
  | .unknown78 => [0x78]
  | .unknown79 => [0x79]
  | .unknown7A => [0x7A]
  | .unknown7B => [0x7B]
  | .unknown7C => [0x7C]
  | .unknown7D => [0x7D]
  | .unknown7E => [0x7E]
  | .unknown7F => [0x7F]
  | .unknown84 => [0x84]
  | .unknown85 => [0x85]
  | .unknown86 => [0x86]
  | .unknown87 => [0x87]
  | .unknown88 => [0x88]
  | .unknown8A => [0x8A]
  | .unknown8B => [0x8B]
  | .unknown8C => [0x8C]
  | .unknown8E => [0x8E]
  | .unknown8F => [0x8F]
  | .unknown90 => [0x90]
  | .unknown91 => [0x91]
  | .unknown92 => [0x92]
  | .unknown93 => [0x93]
  | .unknown94 => [0x94]
  | .unknown95 => [0x95]
  | .unknown96 => [0x96]
  | .unknown97 => [0x97]
  | .unknown98 => [0x98]
  | .unknown99 => [0x99]
  | .unknown9A => [0x9A]
  | .unknown9B => [0x9B]
  | .unknown9C => [0x9C]
  | .unknown9D => [0x9D]
  | .unknown9E => [0x9E]
  | .unknown9F => [0x9F]
  | .unknownA0 => [0xA0]
  | .unknownA1 => [0xA1]
  | .unknownA2 => [0xA2]
  | .unknownA3 => [0xA3]
  | .unknownA4 => [0xA4]
  | .unknownA5 => [0xA5]
  | .unknownA6 => [0xA6]
  | .unknownA7 => [0xA7]
  | .unknownA8 => [0xA8]
  | .unknownA9 => [0xA9]
  | .unknownAA => [0xAA]
  | .unknownAB => [0xAB]
  | .unknownAC => [0xAC]
  | .unknownAD => [0xAD]
  | .unknownAE => [0xAE]
  | .unknownAF => [0xAF]
  | .unknownB0 => [0xB0]
  | .unknownB1 => [0xB1]
  | .unknownB2 => [0xB2]
  | .unknownB3 => [0xB3]
  | .unknownB4 => [0xB4]
  | .unknownB5 => [0xB5]
  | .unknownB6 => [0xB6]
  | .unknownB7 => [0xB7]
  | .unknownB8 => [0xB8]
  | .unknownB9 => [0xB9]
  | .unknownBA => [0xBA]
  | .unknownBB => [0xBB]
  | .unknownBC => [0xBC]
  | .unknownBD => [0xBD]
  | .unknownBE => [0xBE]
  | .unknownBF => [0xBF]
  | .unknownC0 => [0xC0]
  | .unknownC1 => [0xC1]
  | .unknownC2 => [0xC2]
  | .unknownC3 => [0xC3]
  | .unknownC4 => [0xC4]
  | .unknownC5 => [0xC5]
  | .unknownC6 => [0xC6]
  | .unknownC7 => [0xC7]
  | .unknownC8 => [0xC8]
  | .unknownC9 => [0xC9]
  | .unknownCA => [0xCA]
  | .unknownCB => [0xCB]
  | .unknownCC => [0xCC]
  | .unknownCD => [0xCD]
  | .unknownCE => [0xCE]
  | .unknownCF => [0xCF]
  | .unknownD0 => [0xD0]
  | .unknownD1 => [0xD1]
  | .unknownD2 => [0xD2]
  | .unknownD3 => [0xD3]
  | .unknownD4 => [0xD4]
  | .unknownD5 => [0xD5]
  | .unknownD6 => [0xD6]
  | .unknownD7 => [0xD7]
  | .unknownD8 => [0xD8]
  | .unknownD9 => [0xD9]
  | .unknownDA => [0xDA]
  | .unknownDB => [0xDB]
  | .unknownDC => [0xDC]
  | .unknownDD => [0xDD]
  | .unknownDE => [0xDE]
  | .unknownDF => [0xDF]
  | .unknownE0 => [0xE0]
  | .unknownE1 => [0xE1]
  | .unknownE2 => [0xE2]
  | .unknownE3 => [0xE3]
  | .unknownE4 => [0xE4]
  | .unknownE5 => [0xE5]
  | .unknownE6 => [0xE6]
  | .unknownE7 => [0xE7]
  | .unknownE8 => [0xE8]
  | .unknownE9 => [0xE9]
  | .unknownEA => [0xEA]
  | .unknownEB => [0xEB]
  | .unknownEC => [0xEC]
  | .unknownED => [0xED]
  | .unknownEE => [0xEE]
  | .unknownEF => [0xEF]
  | .unknownF1 => [0xF1]
  | .unknownF4 => [0xF4]
  | .unknownF5 => [0xF5]
  | .unknownF6 => [0xF6]
  | .unknownF7 => [0xF7]
  | .unknownF8 => [0xF8]
  | .unknownF9 => [0xF9]
  | .unknownFA => [0xFA]
  | .unknownFB => [0xFB]
  | .unknownFC => [0xFC]
  | .unknownFD => [0xFD]
  | .unknownFE => [0xFE]
  | .prefixLock => [0xF0]
  | .prefixRepNE => [0xF2]
  | .prefixRep => [0xF3]
  | .prefixSegES => [0x26]
  | .prefixSegCS => [0x2E]
  | .prefixSegSS => [0x36]
  | .prefixSegDS => [0x3E]
  | .prefixSegFS => [0x64]
  | .prefixSegGS => [0x65]
  | .prefixOperandSizeOverride => [0x66]
  | .prefixAddressSizeOverride => [0x67]
  | .pushRv r => [0b01010#5 ++ r]
  | .incRv r => [0b01000#5 ++ r]
  | .decRv r => [0b01001#5 ++ r]
  | .rex w r x b => [Rex.raw ⟨w, r, x, b⟩]
  | .endBr64 => [0x0F, 0x1E, 0xFA]
  | .endBr32 => [0x0F, 0x1E, 0xFB]
  | .escapePrefixOtherThanRep => [0x0F]
  | .escapeNoPrefix b2 => [0x0F, b2]
  | .escapeRepSecondByte b2 => [0x0F, b2]
  | .escapeRepThirdByte b3 => [0x0F, 0x1E, b3]

/-- How many bytes the lookup of a row consumes: the peeked ModR/M byte is not one of them (R138, 46_escape.md R310). -/
def Instr.opLen : Instr → Nat
  | .endBr64 | .endBr32 | .escapeRepThirdByte _ => 3
  | .escapeNoPrefix _ | .escapeRepSecondByte _ => 2
  | _ => 1

/-- The n low bytes of a number, least significant first. -/
def bytesOfNat : Nat → Nat → List Byte
  | 0, _ => []
  | n + 1, w => BitVec.ofNat 8 w :: bytesOfNat n (w / 256)

/-- The bytes of a word of the opcode table, in the order the buffer holds them, padded with zeros to the longest instruction.
The table writes its rows of several bytes, all of them escape rows, with the escape byte 0x0F in the most significant place,
so a word whose top byte is 0x0F is laid out from the top (log 10). -/
def tableBytes (nbits w : Nat) : List Byte :=
  let raw := bytesOfNat (nbits / 8) w
  let ordered := if raw.getLast? = some 0x0F#8 then raw.reverse else raw
  (ordered ++ List.replicate Config.maxLength 0#8).take Config.maxLength

/-- A word of the table that begins with the bytes 0F 1E is a row of the escape path, which the opcode table has only behind a
Rep prefix (46_escape.md R310, R311, R315, R316). -/
def tableNeedsRep (nbits w : Nat) : Bool := (tableBytes nbits w).take 2 == [0x0F#8, 0x1E#8]

/-- The context a word of the table is read in: the mode after reset, behind a Rep prefix where the row needs one (log 10). -/
def tableCtx (nbits w : Nat) : Ctx where
  mode := Config.resetMode
  prefixes := if tableNeedsRep nbits w then [.rep] else []

/-- The row the decoder reads from a word of the opcode table. -/
def decodeTableWord (nbits w : Nat) : Option Instr :=
  match decode (tableCtx nbits w) (tableBytes nbits w) with
  | .ok i => some i
  | .error _ => none

end Sys2Proof
end

