-- ==== Sys2Proof/Machine/State.lean ====
section
/-! DEFINITION. The machine's state as plain data: the byte buffer, the cursor position, the CPU mode and the transient state of one transaction (10_state.md R41), with the records they hold, the results handed to the caller and the caller's pending calls; State.reset; the fault and refusal names. -/

namespace Sys2Proof.Machine

/-- The bytes of the buffer as (offset, byte) pairs in one canonical form: offsets strictly rising, no byte equal to
`Memory.unlisted` (20_memory.md R60). -/
abbrev Memory := List Host.Cell

/-- The byte an offset inside the buffer reads as when it is not listed. The spec gives the buffer's contents to the caller
(20_memory.md R70), so this is the model's own (DESIGN CHOICE, unsafe, log 8). -/
def Memory.unlisted : Byte := 0x00

/-- The canonical form, for the offsets from `from` on. -/
def Memory.wfFrom : Nat → Memory → Bool
  | _, [] => true
  | lo, (a, b) :: rest => decide (lo ≤ a) && b != Memory.unlisted && Memory.wfFrom (a + 1) rest

/-- The canonical form of a memory. -/
def Memory.wf (m : Memory) : Bool := Memory.wfFrom 0 m

/-- The byte buffer of a transaction: N = `len` bytes at offsets 0 to N-1 (20_memory.md R60, 00_scope.md R6 BUF_LEN). -/
structure Buffer where
  len : Nat
  mem : Memory
deriving DecidableEq, Repr

/-- A buffer is well formed when its memory is canonical and lists no offset outside 0 to N-1. -/
def Buffer.wf (b : Buffer) : Bool := b.mem.wf && b.mem.all fun c => decide (c.1 < b.len)

/-- The addressing form of a ModR/M byte (30_encoding.md R89, R90, R92). -/
inductive AddrForm where
  | base (rm : BitVec 4)
  | noBase
  | sib
  | pair16 (first : Reg) (second : Option Reg)
  | noBase16
  | direct (rm : BitVec 4)
deriving DecidableEq, Repr

/-- The ModRM record (10_state.md R36). mod, reg3 and rm3 are views of the raw byte. -/
structure ModRM where
  raw : Byte
  reg : BitVec 4
  rm : BitVec 4
  form : AddrForm
deriving DecidableEq, Repr

/-- The SIB scale factors (10_state.md R37). -/
inductive Scale where
  | s2 | s4 | s8
deriving DecidableEq, Repr

/-- The Sib record (10_state.md R37). scale2, index3 and base3 are views of the raw byte. -/
structure Sib where
  raw : Byte
  base : Option (BitVec 4)
  index : Option (BitVec 4)
  scale : Option Scale
deriving DecidableEq, Repr

/-- A Displacement is a width with a raw unsigned value (10_state.md R38). -/
abbrev Displacement := Sized

/-- An Immediate is a width with a value and a signed flag (10_state.md R38). -/
structure Immediate where
  value : Sized
  signed : Bool
deriving DecidableEq, Repr

/-- The kinds of a memory descriptor (10_state.md R44). -/
inductive MemKind where
  | base | noBase | sib | pair16 | noBase16
deriving DecidableEq, Repr

/-- A memory descriptor (10_state.md R44). -/
structure MemDesc where
  asize : AddrSize
  kind : MemKind
  base : Option Reg
  index : Option Reg
  scale : Option Scale
  disp : Option Displacement
  ripRelative : Bool
deriving DecidableEq, Repr

/-- A resolved operand (10_state.md R43); ToBeDecided is no constructor (I4). A segment register always has the size tag 16. -/
inductive ResolvedOperand where
  | reg (r : Reg) (w : Width)
  | seg (s : SegReg)
  | imm (i : Immediate)
  | mem (d : MemDesc) (w : Width)
deriving DecidableEq, Repr

/-- The Instruction a transaction returns (10_state.md R45). -/
structure Instruction where
  mode : CpuMode
  prefixes : List Prefix
  rex : Option Rex
  opcode : OpcodeIdentity
  encoding : Encoding
  opbytes : List Byte
  modrm : Option ModRM
  sib : Option Sib
  disp : Option Displacement
  operands : List ResolvedOperand
  opsize : OperandSize
  length : Nat
deriving DecidableEq, Repr

/-- What an InvalidPrefix error carries, by its cause (60_exceptions.md R402). -/
inductive PrefixInfo where
  | fourth (p : Prefix)
  | afterRex (b : Byte)
  | escape (ps : List Prefix)
deriving DecidableEq, Repr

/-- The closed set of decode errors with what each carries (60_exceptions.md R400). An error is a returned value, not a trap
(R409). -/
inductive DecodeError where
  | notEnoughBytes (n : Nat)
  | invalidPrefix (info : PrefixInfo)
  | invalidOpcode (b1 b2 : Byte)
  | invalid3ByteOpcode (b1 b2 b3 : Byte)
  | invalidExtension (opcode : Byte) (ext : BitVec 3)
  | invalidAddressSize (mode : CpuMode) (eas : AddrSize)
  | invalidModRM
deriving DecidableEq, Repr

/-- What one transaction returns, with the position after it: an Instruction (R45) or an error (60_exceptions.md R409, R411). -/
inductive Result where
  | instruction (ins : Instruction) (pos : Nat)
  | error (e : DecodeError) (pos : Nat)
deriving DecidableEq, Repr

/-- One call of the caller: the buffer if it is a new one, the mode and the start offset (70_reset_and_hazards.md R452). -/
structure Call where
  buf : Option Buffer
  mode : CpuMode
  start : Nat
deriving DecidableEq, Repr

/-- The named states of a transaction (40_decode_pipeline.md R130). -/
inductive Stage where
  | awaitingOpcode | haveRex | haveOpcode | haveModRM | resolving | done
deriving DecidableEq, Repr

/-- The transient state of one transaction (10_state.md R41); mode and pos stand beside it in State. -/
structure Transient where
  start : Nat
  stage : Stage
  prefixes : List Prefix
  rex : Option Rex
  opbytes : List Byte
  entry : Option Entry
  modrm : Option ModRM
  sib : Option Sib
  disp : Option Displacement
  eos : Option OperandSize
  eas : Option AddrSize
  ops : List ResolvedOperand
deriving DecidableEq, Repr

/-- The transient state at the start of a transaction (10_state.md R41, 70_reset_and_hazards.md R450). -/
def Transient.init (start : Nat) : Transient where
  start := start
  stage := .awaitingOpcode
  prefixes := []
  rex := none
  opbytes := []
  entry := none
  modrm := none
  sib := none
  disp := none
  eos := none
  eas := none
  ops := []

/-- The state of the machine. `buf`, `mode` and `pos` are the caller's inputs to a transaction (R39, R41, R452), `tx` is the
transaction under way, `results` and `calls` are the caller's side of the interface (log 4, log 5). -/
structure State where
  buf : Buffer
  mode : CpuMode
  pos : Nat
  tx : Transient
  results : List Result
  calls : List Call
deriving DecidableEq, Repr

/-- The state right after reset: no transaction has consumed a byte (70_reset_and_hazards.md R450). The buffer, the mode and the
position are the caller's (R451, R452); their values here are the model's (log 6, log 7). -/
def State.reset : State where
  buf := ⟨0, []⟩
  mode := Config.resetMode
  pos := 0
  tx := Transient.init 0
  results := []
  calls := []

/-- The transient fields that are none or empty in some stage, "not readable there" (10_state.md R42). -/
inductive TxField where
  | opbytes | entry | eos | eas
deriving DecidableEq, Repr

/-- Why the machine stops. No run reaches a fault (log 16). -/
inductive Fault where
  /-- Raised by the pipeline when it is resumed in a stage whose field is none: R42 says the field is not readable there. Safe. -/
  | notReadable (f : TxField)
  /-- Raised by register naming for a number at 8 bits without REX that the table of R23 gives as "(none)"; R27 says it cannot
  arise. Safe. -/
  | noSuchRegister (n : BitVec 4)
deriving DecidableEq, Repr

/-- Why a step is refused. -/
inductive Refusal where
  /-- Answered by `exec` for a row that has no meaning yet; no row is left so. Safe. -/
  | notModelled (mnemonic : String)
  /-- Answered by the step that begins a transaction at a start offset beyond the buffer's end: outside the domain, since
  0 ≤ start ≤ N is the caller's obligation (R452, I8 "refuse"). Safe. -/
  | startBeyondBuffer (start : Nat) (len : Nat)
deriving DecidableEq, Repr

end Sys2Proof.Machine
end

