-- ==== Sys2Proof/Machine/Ops.lean ====
section
/-! DEFINITION. The named operations: memory, the byte cursor (20_memory.md), the updates of the transient state, raising an error and returning an Instruction, and beginning a transaction. -/

namespace Sys2Proof.Machine

/-! ## Memory -/

/-- The byte at an offset; one not listed reads as `Memory.unlisted`. -/
def Memory.read : Memory → Nat → Byte
  | [], _ => Memory.unlisted
  | (k, v) :: rest, a => if k = a then v else Memory.read rest a

/-- Put a byte at an offset, keeping the canonical form: the value an unlisted offset reads as removes the entry. Only the
caller writes (20_memory.md R60, R73). -/
def Memory.write : Memory → Nat → Byte → Memory
  | [], a, b => if b = Memory.unlisted then [] else [(a, b)]
  | (k, v) :: rest, a, b =>
    if k = a then (if b = Memory.unlisted then rest else (a, b) :: rest)
    else if a < k then (if b = Memory.unlisted then (k, v) :: rest else (a, b) :: (k, v) :: rest)
    else (k, v) :: Memory.write rest a b

/-- Put consecutive bytes from an offset on. -/
def Memory.writeBytes : Memory → Nat → List Byte → Memory
  | m, _, [] => m
  | m, a, b :: bs => Memory.writeBytes (Memory.write m a b) (a + 1) bs

/-- The n bytes at offsets a to a+n-1 (R9 `MemRead`). -/
def Memory.bytesAt (m : Memory) : Nat → Nat → List Byte
  | _, 0 => []
  | a, n + 1 => Memory.read m a :: Memory.bytesAt m (a + 1) n

/-- Little-endian: the sum over i of byte[p+i] * 2^(8i) (20_memory.md R63). -/
def leValue : List Byte → Nat
  | [] => 0
  | b :: bs => b.toNat + 256 * leValue bs

/-- A buffer that holds exactly the given bytes. -/
def Buffer.ofBytes (bs : List Byte) : Buffer := ⟨bs.length, Memory.writeBytes [] 0 bs⟩

/-- `bytes_unread()` at a position (20_memory.md R62). -/
def Buffer.unread (b : Buffer) (pos : Nat) : Nat := b.len - pos

/-- One byte of the buffer, none past its end (20_memory.md R65). -/
def Buffer.byte? (b : Buffer) (pos : Nat) : Option Byte :=
  if pos < b.len then some (b.mem.read pos) else none

/-- n bytes of the buffer as a little-endian value, none when fewer are unread (20_memory.md R63 to R65). -/
def Buffer.value? (b : Buffer) (pos n : Nat) : Option Nat :=
  if pos + n ≤ b.len then some (leValue (b.mem.bytesAt pos n)) else none

/-- The bytes from a position to the buffer's end, n at most: what a lookup can see. -/
def Buffer.window (b : Buffer) (pos n : Nat) : List Byte := b.mem.bytesAt pos (min n (b.unread pos))

/-- A number as a value of a width. -/
def sizedOfNat : Width → Nat → Sized
  | .w8, v => .b8 (BitVec.ofNat 8 v)
  | .w16, v => .b16 (BitVec.ofNat 16 v)
  | .w32, v => .b32 (BitVec.ofNat 32 v)
  | .w64, v => .b64 (BitVec.ofNat 64 v)

/-! ## The transient state -/

namespace State

/-- The context a lookup depends on. -/
def ctx (s : State) : Ctx := ⟨s.mode, s.tx.prefixes⟩

/-- Move the cursor past n bytes (R9, 20_memory.md R64). -/
def advance (s : State) (n : Nat) : State := { s with pos := s.pos + n }

/-- Replace the transient state. -/
def withTx (s : State) (t : Transient) : State := { s with tx := t }

/-- `P <- P ++ [p]` (40_decode_pipeline.md R132). -/
def pushPrefix (s : State) (p : Prefix) : State := s.withTx { s.tx with prefixes := s.tx.prefixes ++ [p] }

/-- `rex <- r`, entering HaveRex (40_decode_pipeline.md R134). -/
def setRex (s : State) (r : Rex) : State := s.withTx { s.tx with rex := some r, stage := .haveRex }

/-- Enter HaveOpcode with the row's opcode bytes and entry; modrm, sib and disp are none and ops is empty there
(40_decode_pipeline.md R131, R136). -/
def setEntry (s : State) (opbytes : List Byte) (e : Entry) : State :=
  s.withTx
    { s.tx with
      stage := .haveOpcode, opbytes := opbytes, entry := some e
      modrm := none, sib := none, disp := none, ops := [] }

/-- `modrm <- m` (40_decode_pipeline.md R140). -/
def setModRM (s : State) (m : ModRM) : State := s.withTx { s.tx with modrm := some m }

/-- `sib <- x` (40_decode_pipeline.md R141). -/
def setSib (s : State) (x : Sib) : State := s.withTx { s.tx with sib := some x }

/-- `disp <- d` (40_decode_pipeline.md R142). -/
def setDisp (s : State) (d : Displacement) : State := s.withTx { s.tx with disp := some d }

/-- Enter a stage (40_decode_pipeline.md R130). -/
def setStage (s : State) (g : Stage) : State := s.withTx { s.tx with stage := g }

/-- Enter Resolving with the two sizes computed (40_decode_pipeline.md R145, R146). -/
def setSizes (s : State) (eos : OperandSize) (eas : AddrSize) : State :=
  s.withTx { s.tx with stage := .resolving, eos := some eos, eas := some eas }

/-- `ops <- ops ++ [o]` (40_decode_pipeline.md R149). -/
def pushOp (s : State) (o : ResolvedOperand) : State := s.withTx { s.tx with ops := s.tx.ops ++ [o] }

/-- The transaction ends with a result: the result is handed to the caller and no transient field survives (10_state.md R41,
R48, R50). The buffer, the mode, the position and the earlier results stay (60_exceptions.md R410). -/
def endWith (s : State) (r : Result) : State :=
  { s with tx := Transient.init s.pos, results := r :: s.results }

end State

/-! ## Raising and returning -/

/-- `raise E(info)`: taking an error, the ONE way a transaction fails. It is a value returned to the caller with the position of
the failing step; no handler, no vector, no saved state (60_exceptions.md R409 to R411, R415, R416). -/
def raiseError (e : DecodeError) (s : State) : State := s.endWith (.error e s.pos)

/-- The return of a completed Instruction with the final position (40_decode_pipeline.md R160). -/
def returnInstruction (ins : Instruction) (s : State) : State := s.endWith (.instruction ins s.pos)

/-- How a stage of the pipeline ends: with a value and the state after it, with an error raised at a state, or at a field that
is not readable. -/
inductive Flow (α : Type) where
  | ok (a : α) (s : State)
  | raise (e : DecodeError) (s : State)
  | fault (f : Fault)
deriving DecidableEq, Repr

/-- Go on after a stage; an error propagates at once (40_decode_pipeline.md R161). -/
def Flow.bind {α β : Type} (x : Flow α) (k : α → State → Flow β) : Flow β :=
  match x with
  | .ok a s => k a s
  | .raise e s => .raise e s
  | .fault f => .fault f

/-- The outcome of a step whose stages have run: the transaction returns an Instruction or exactly one error
(40_decode_pipeline.md R161). -/
def Flow.outcome : Flow Instruction → Host.Outcome State Fault Refusal
  | .ok ins s => .next (returnInstruction ins s)
  | .raise e s => .next (raiseError e s)
  | .fault f => .fault f

/-- A field that must be readable in this stage (10_state.md R42). -/
def readable {α : Type} (f : TxField) (v : Option α) (s : State) : Flow α :=
  match v with
  | some a => .ok a s
  | none => .fault (.notReadable f)

/-! ## The cursor -/

/-- `Read8()` (R9, 20_memory.md R64, R65). -/
def read8 (s : State) : Flow Byte :=
  match s.buf.byte? s.pos with
  | some b => .ok b (s.advance 1)
  | none => .raise (.notEnoughBytes 1) s

/-- `ReadN(n)` (R9, 20_memory.md R63 to R65). -/
def readN (n : Nat) (s : State) : Flow Nat :=
  match s.buf.value? s.pos n with
  | some v => .ok v (s.advance n)
  | none => .raise (.notEnoughBytes n) s

/-- `ReadN(w/8)` as a value of width w. -/
def readSized (w : Width) (s : State) : Flow Sized :=
  (readN w.bytes s).bind fun v s => .ok (sizedOfNat w v) s

/-! ## Beginning a transaction -/

/-- No byte of a transaction has been consumed: the caller may begin one here. -/
def State.atStart (s : State) : Bool := s.tx == Transient.init s.pos

/-- Begin the caller's next call: its buffer if it brings one, its mode, its start offset, which must not exceed N
(70_reset_and_hazards.md R450, R452, I8). -/
def beginCall (c : Call) (rest : List Call) (s : State) : Host.Outcome State Fault Refusal :=
  let buf := c.buf.getD s.buf
  if c.start ≤ buf.len then
    .next { s with buf := buf, mode := c.mode, pos := c.start, tx := Transient.init c.start, calls := rest }
  else .refused (.startBeyondBuffer c.start buf.len)

/-- Between two transactions the pending call is begun; with none pending the next transaction begins where the cursor stands,
in the same mode and on the same buffer (70_reset_and_hazards.md R453; log 3). Inside a transaction nothing happens here. -/
def takeCall (s : State) : Host.Outcome State Fault Refusal :=
  if s.atStart then
    match s.calls with
    | c :: rest => beginCall c rest s
    | [] => if s.pos ≤ s.buf.len then .next s else .refused (.startBeyondBuffer s.pos s.buf.len)
  else .next s

/-! ## Where a lookup reads, and placing a word of the opcode table there -/

/-- The bytes a lookup can see at the cursor: three at most, the longest opcode (46_escape.md R310). -/
def State.fetch (s : State) : List Byte := s.buf.window s.pos 3

/-- Put bytes at the cursor, extending the buffer when it ends before them. -/
def State.placeBytes (s : State) (bs : List Byte) : State :=
  { s with buf := ⟨max s.buf.len (s.pos + bs.length), s.buf.mem.writeBytes s.pos bs⟩ }

/-- Between two transactions, in the mode after reset, with no call pending, a word of the opcode table stands where the next
lookup reads. A row of the escape path behind Rep stands after that prefix, already scanned (log 9, log 10). -/
def State.placeWord (s : State) (nbits w : Nat) : State :=
  let idle : State := { s with mode := Config.resetMode, tx := Transient.init s.pos, calls := [] }
  if tableNeedsRep nbits w then
    ((idle.placeBytes (Prefix.rep.byte :: tableBytes nbits w)).advance 1).pushPrefix .rep
  else idle.placeBytes (tableBytes nbits w)

end Sys2Proof.Machine
end

