-- ==== Sys2Proof/Machine/Flags.lean ====
section
/-! DEFINITION. The block has no flags (10_state.md R20, N6; every row says "Flags written: none"), so no flag computation stands here. What steers the pipeline in their place is computed here whole: the override prefixes, the REX bits, and the two effective sizes they select (40_decode_pipeline.md R145 to R148). -/

namespace Sys2Proof.Machine

/-- OperandSizeOverride is in P, once or more (40_decode_pipeline.md R145). -/
def operandSizeOverride (ps : List Prefix) : Bool := ps.contains .operandSizeOverride

/-- AddressSizeOverride is in P (40_decode_pipeline.md R146). -/
def addressSizeOverride (ps : List Prefix) : Bool := ps.contains .addressSizeOverride

/-- A REX bit, 0 when no REX byte was decoded (40_decode_pipeline.md R131). -/
def rexBit (field : Rex → Bool) (rex : Option Rex) : Bool := (rex.map field).getD false

/-- The default operand size of a mode (10_state.md R22). -/
def defaultOperandSize : CpuMode → OperandSize
  | .m16 => .o16
  | .m32 => .o32
  | .m64 => .o32

/-- The default address size of a mode (10_state.md R22). -/
def defaultAddrSize : CpuMode → AddrSize
  | .m16 => .a16
  | .m32 => .a32
  | .m64 => .a64

/-- `EffOpSize(mode, o, W)` (40_decode_pipeline.md R145). -/
def effOpSize (mode : CpuMode) (o w : Bool) : OperandSize :=
  if mode = .m64 ∧ w = true then .o64
  else if o then (if mode = .m16 then .o32 else .o16)
  else defaultOperandSize mode

/-- `EffAddrSize(mode, a)` (40_decode_pipeline.md R146). -/
def effAddrSize (mode : CpuMode) (a : Bool) : AddrSize :=
  if a then
    match mode with
    | .m16 => .a32
    | .m32 => .a16
    | .m64 => .a32
  else defaultAddrSize mode

/-- The effective operand size of a transaction: one value per instruction (40_decode_pipeline.md R148). -/
def eosOf (mode : CpuMode) (ps : List Prefix) (rex : Option Rex) : OperandSize :=
  effOpSize mode (operandSizeOverride ps) (rexBit Rex.w rex)

/-- The effective address size of a transaction. -/
def easOf (mode : CpuMode) (ps : List Prefix) : AddrSize := effAddrSize mode (addressSizeOverride ps)

/-- The (mode, eas) pairs a memory operand may have (40_decode_pipeline.md R151). -/
def legalAddrSize : CpuMode → AddrSize → Bool
  | .m16, .a16 | .m32, .a32 | .m64, .a64 | .m64, .a32 => true
  | .m16, .a32 | .m16, .a64 | .m32, .a16 | .m32, .a64 | .m64, .a16 => false

/-- The width of an effective operand size. -/
def eosWidth : OperandSize → Width
  | .o16 => .w16
  | .o32 => .w32
  | .o64 => .w64

end Sys2Proof.Machine
end

