-- ==== Sys2Proof/Machine/Operands.lean ====
section
/-! DEFINITION. The operand forms: register naming and families (10_state.md R23 to R28), ModR/M, SIB and displacement forms (30_encoding.md R87 to R97), memory descriptors, immediates and the resolution of each template kind (40_decode_pipeline.md R149 to R159). -/

namespace Sys2Proof.Machine

/-! ## Registers -/

/-- One row of the register table of 10_state.md R23. -/
structure RegRow where
  r64 : Reg
  r32 : Reg
  r16 : Reg
  r8 : Option Reg
  r8rex : Reg
deriving DecidableEq, Repr

/-- The register table of 10_state.md R23, rows 0 to 15: 64-bit, 32-bit, 16-bit, 8-bit without REX, 8-bit with REX. -/
def regTable : List RegRow :=
  [⟨.rax, .eax, .ax, some .al, .al⟩, ⟨.rcx, .ecx, .cx, some .cl, .cl⟩,
   ⟨.rdx, .edx, .dx, some .dl, .dl⟩, ⟨.rbx, .ebx, .bx, some .bl, .bl⟩,
   ⟨.rsp, .esp, .sp, some .ah, .spl⟩, ⟨.rbp, .ebp, .bp, some .ch, .bpl⟩,
   ⟨.rsi, .esi, .si, some .dh, .sil⟩, ⟨.rdi, .edi, .di, some .bh, .dil⟩,
   ⟨.r8, .r8d, .r8w, none, .r8b⟩, ⟨.r9, .r9d, .r9w, none, .r9b⟩,
   ⟨.r10, .r10d, .r10w, none, .r10b⟩, ⟨.r11, .r11d, .r11w, none, .r11b⟩,
   ⟨.r12, .r12d, .r12w, none, .r12b⟩, ⟨.r13, .r13d, .r13w, none, .r13b⟩,
   ⟨.r14, .r14d, .r14w, none, .r14b⟩, ⟨.r15, .r15d, .r15w, none, .r15b⟩]

/-- Row n of the register table. -/
def regRow (n : BitVec 4) : RegRow := pick regTable n rfl

/-- `reg(n, s, rexp)`: the register named by number, size and REX presence (10_state.md R27); none where the table says
"(none)", numbers 8 to 15 at 8 bits without REX. -/
def regName (n : BitVec 4) (w : Width) (rexp : Bool) : Option Reg :=
  match w with
  | .w64 => some (regRow n).r64
  | .w32 => some (regRow n).r32
  | .w16 => some (regRow n).r16
  | .w8 => if rexp then some (regRow n).r8rex else (regRow n).r8

/-- `reg(n, s, rexp)` as a total function, for the statements; the pipeline uses `regName`. Where the table says "(none)" R27 says
that the number does not arise. -/
def namedReg (n : BitVec 4) (w : Width) (rexp : Bool) : Reg := (regName n w rexp).getD (regRow n).r8rex

/-- The register of a number at an address size: base and index registers of 32- and 64-bit addressing
(40_decode_pipeline.md R151). -/
def addrReg (n : BitVec 4) : AddrSize → Reg
  | .a16 => (regRow n).r16
  | .a32 => (regRow n).r32
  | .a64 => (regRow n).r64

/-- The width of a register. -/
def regWidth : Reg → Width
  | .al | .cl | .dl | .bl | .ah | .ch | .dh | .bh | .spl | .bpl | .sil | .dil
  | .r8b | .r9b | .r10b | .r11b | .r12b | .r13b | .r14b | .r15b => .w8
  | .ax | .cx | .dx | .bx | .sp | .bp | .si | .di
  | .r8w | .r9w | .r10w | .r11w | .r12w | .r13w | .r14w | .r15w => .w16
  | .eax | .ecx | .edx | .ebx | .esp | .ebp | .esi | .edi
  | .r8d | .r9d | .r10d | .r11d | .r12d | .r13d | .r14d | .r15d => .w32
  | .rax | .rcx | .rdx | .rbx | .rsp | .rbp | .rsi | .rdi
  | .r8 | .r9 | .r10 | .r11 | .r12 | .r13 | .r14 | .r15 => .w64

/-- The family of a register: "Every concrete register belongs to exactly one" (10_state.md R24). -/
def familyOf : Reg → Family
  | .al | .ah | .ax | .eax | .rax => .accumulator
  | .cl | .ch | .cx | .ecx | .rcx => .counter
  | .dl | .dh | .dx | .edx | .rdx => .data
  | .bl | .bh | .bx | .ebx | .rbx => .base
  | .spl | .sp | .esp | .rsp => .stackPointer
  | .bpl | .bp | .ebp | .rbp => .basePointer
  | .sil | .si | .esi | .rsi => .source
  | .dil | .di | .edi | .rdi => .destination
  | .r8b | .r8w | .r8d | .r8 => .r8
  | .r9b | .r9w | .r9d | .r9 => .r9
  | .r10b | .r10w | .r10d | .r10 => .r10
  | .r11b | .r11w | .r11d | .r11 => .r11
  | .r12b | .r12w | .r12d | .r12 => .r12
  | .r13b | .r13w | .r13d | .r13 => .r13
  | .r14b | .r14w | .r14d | .r14 => .r14
  | .r15b | .r15w | .r15d | .r15 => .r15

/-- The register number whose row holds a family's members. -/
def familyNumber : Family → BitVec 4
  | .accumulator => 0
  | .counter => 1
  | .data => 2
  | .base => 3
  | .stackPointer => 4
  | .basePointer => 5
  | .source => 6
  | .destination => 7
  | .r8 => 8
  | .r9 => 9
  | .r10 => 10
  | .r11 => 11
  | .r12 => 12
  | .r13 => 13
  | .r14 => 14
  | .r15 => 15

/-- `family.at_size(s)` for a resolved width: at 8 bits the low-byte member, never an 8-bit high register (10_state.md R25). -/
def familyAt (f : Family) : Width → Reg
  | .w8 => (regRow (familyNumber f)).r8rex
  | .w16 => (regRow (familyNumber f)).r16
  | .w32 => (regRow (familyNumber f)).r32
  | .w64 => (regRow (familyNumber f)).r64

/-- The width of an OpSize; "derive from CPU mode" has none of its own (10_state.md R30). -/
def opSizeWidth : OpSize → Option Width
  | .u8 | .i8 => some .w8
  | .u16 | .i16 => some .w16
  | .u32 | .i32 => some .w32
  | .u64 | .i64 => some .w64
  | .cpuMode => none

/-- `family.at_size(s)` over the source's size enumeration: an unmapped size gives the 32-bit member (10_state.md R25). -/
def familyAtSize (f : Family) (s : OpSize) : Reg := familyAt f ((opSizeWidth s).getD .w32)

/-- `reg.convert_with_size(s)` (10_state.md R26); it is not how a numbered register is named (R27, 90_conflicts.md C13). -/
def convertWithSize (r : Reg) (s : OpSize) : Reg := familyAtSize (familyOf r) s

/-! ## ModR/M, SIB, displacement -/

/-- `mod` = raw[7:6] (30_encoding.md R87). -/
def modOf (raw : Byte) : BitVec 2 := bits raw 6 2

/-- `reg3` = raw[5:3]. -/
def reg3Of (raw : Byte) : BitVec 3 := bits raw 3 3

/-- `rm3` = raw[2:0]. -/
def rm3Of (raw : Byte) : BitVec 3 := bits raw 0 3

/-- `scale2` = raw[7:6] of a SIB byte (30_encoding.md R94). -/
def scale2Of (raw : Byte) : BitVec 2 := bits raw 6 2

/-- `index3` = raw[5:3] of a SIB byte. -/
def index3Of (raw : Byte) : BitVec 3 := bits raw 3 3

/-- `base3` = raw[2:0] of a SIB byte. -/
def base3Of (raw : Byte) : BitVec 3 := bits raw 0 3

/-- A 3-bit field with a REX bit prepended as bit 3 in 64-bit mode (30_encoding.md R88, R94). -/
def extend (mode : CpuMode) (bit : Bool) (n : BitVec 3) : BitVec 4 :=
  if mode = .m64 then BitVec.ofBool bit ++ n else 0#1 ++ n

/-- The 16-bit address pairs by rm3 (30_encoding.md R92): the first register is the base, the second the index. -/
def pairTable : List (Reg × Option Reg) :=
  [(.bx, some .si), (.bx, some .di), (.bp, some .si), (.bp, some .di),
   (.si, none), (.di, none), (.bp, none), (.bx, none)]

/-- The addressing form (30_encoding.md R89, R90, R92), by the CPU mode and never by eas (40_decode_pipeline.md R140). The
special cases go by rm3 whatever REX.B is (R89). -/
def addrForm (mode : CpuMode) (mod : BitVec 2) (rm3 : BitVec 3) (rm : BitVec 4) : AddrForm :=
  if mod = 0b11#2 then .direct rm
  else if mode = .m16 then
    if mod = 0b00#2 ∧ rm3 = 0b110#3 then .noBase16
    else
      let p := pick pairTable rm3 rfl
      .pair16 p.1 p.2
  else if rm3 = 0b100#3 then .sib
  else if mod = 0b00#2 ∧ rm3 = 0b101#3 then .noBase
  else .base rm

/-- `DecodeModRM(m, mode, R, B)` (40_decode_pipeline.md R140). -/
def decodeModRM (m : Byte) (mode : CpuMode) (rex : Option Rex) : ModRM :=
  let rm := extend mode (rexBit Rex.b rex) (rm3Of m)
  { raw := m
    reg := extend mode (rexBit Rex.r rex) (reg3Of m)
    rm := rm
    form := addrForm mode (modOf m) (rm3Of m) rm }

/-- The scale factor of scale bits; 00 is no factor (30_encoding.md R94). -/
def scaleOf (scale2 : BitVec 2) : Option Scale :=
  if scale2 = 0b01#2 then some .s2
  else if scale2 = 0b10#2 then some .s4
  else if scale2 = 0b11#2 then some .s8
  else none

/-- The base is cleared and a disp32 forced when mod = 00 and base3 = 101 (30_encoding.md R95). -/
def sibNoBase (mod : BitVec 2) (raw : Byte) : Bool := mod == 0b00#2 && base3Of raw == 0b101#3

/-- `DecodeSib(s, mod, mode, X, B)` (40_decode_pipeline.md R141): index3 = 100 means no index and no scale whatever X is. -/
def decodeSib (raw : Byte) (mod : BitVec 2) (mode : CpuMode) (rex : Option Rex) : Sib :=
  let noIndex := index3Of raw == 0b100#3
  { raw := raw
    base := if sibNoBase mod raw then none else some (extend mode (rexBit Rex.b rex) (base3Of raw))
    index := if noIndex then none else some (extend mode (rexBit Rex.x rex) (index3Of raw))
    scale := if noIndex then none else scaleOf (scale2Of raw) }

/-- The displacement width that mod selects for a register base: none, 8, or the full width (30_encoding.md R89, R92). -/
def dispOfMod (mod : BitVec 2) (full : Width) : Option Width :=
  if mod = 0b01#2 then some .w8 else if mod = 0b10#2 then some full else none

/-- `DispWidth` (40_decode_pipeline.md R142): the width the addressing form selects (30_encoding.md R89, R92, R95). -/
def dispWidth (m : ModRM) (sib : Option Sib) : Option Width :=
  match m.form with
  | .direct _ => none
  | .noBase => some .w32
  | .noBase16 => some .w16
  | .base _ => dispOfMod (modOf m.raw) .w32
  | .pair16 _ _ => dispOfMod (modOf m.raw) .w16
  | .sib =>
    match sib with
    | some x => if sibNoBase (modOf m.raw) x.raw then some .w32 else dispOfMod (modOf m.raw) .w32
    | none => dispOfMod (modOf m.raw) .w32

/-- `ModRM::register()`: the direct register number when mod = 11 (30_encoding.md R93). -/
def directRegister (m : ModRM) : Option (BitVec 4) :=
  match m.form with
  | .direct rm => some rm
  | .base _ | .noBase | .sib | .pair16 _ _ | .noBase16 => none

/-- `ModRM::effective_address()` (30_encoding.md R93) at an address size: the memory descriptor of 10_state.md R44 and
40_decode_pipeline.md R151, none for a register-direct form. -/
def memDescriptor (mode : CpuMode) (eas : AddrSize) (m : ModRM) (sib : Option Sib) (disp : Option Displacement) :
    Option MemDesc :=
  let plain (kind : MemKind) (base index : Option Reg) (scale : Option Scale) : MemDesc :=
    { asize := eas, kind := kind, base := base, index := index, scale := scale, disp := disp, ripRelative := false }
  match m.form with
  | .direct _ => none
  | .base rm => some (plain .base (some (addrReg rm eas)) none none)
  | .noBase => some { plain .noBase none none none with ripRelative := mode == .m64 }
  | .sib =>
    some (plain .sib ((sib.bind Sib.base).map fun n => addrReg n eas) ((sib.bind Sib.index).map fun n => addrReg n eas)
      (sib.bind Sib.scale))
  | .pair16 first second => some (plain .pair16 (some first) second none)
  | .noBase16 => some (plain .noBase16 none none none)

/-! ## Immediates -/

/-- The read width of an immediate (40_decode_pipeline.md R155): class B pins 8 bits; the others parse at eos, where a 64-bit
size falls back to 32 bits. No covered row has an immediate of class V or P (log 17). -/
def immWidth (c : SizeClass) (eos : OperandSize) : Width :=
  match c with
  | .B => .w8
  | .V | .Z | .P =>
    match eos with
    | .o16 => .w16
    | .o32 => .w32
    | .o64 => .w32

/-- `sext_N(v)` (R8): to a larger width; a width that is not larger changes nothing. -/
def sext : Sized → Width → Sized
  | .b8 v, .w16 => .b16 (v.signExtend 16)
  | .b8 v, .w32 => .b32 (v.signExtend 32)
  | .b8 v, .w64 => .b64 (v.signExtend 64)
  | .b16 v, .w32 => .b32 (v.signExtend 32)
  | .b16 v, .w64 => .b64 (v.signExtend 64)
  | .b32 v, .w64 => .b64 (v.signExtend 64)
  | v, _ => v

/-- `zext_N(v)` (R8), likewise. -/
def zext : Sized → Width → Sized
  | .b8 v, .w16 => .b16 (v.zeroExtend 16)
  | .b8 v, .w32 => .b32 (v.zeroExtend 32)
  | .b8 v, .w64 => .b64 (v.zeroExtend 64)
  | .b16 v, .w32 => .b32 (v.zeroExtend 32)
  | .b16 v, .w64 => .b64 (v.zeroExtend 64)
  | .b32 v, .w64 => .b64 (v.zeroExtend 64)
  | v, _ => v

/-- `Immediate::widen(w)` (40_decode_pipeline.md R157): a signed immediate is sign-extended to a larger size and otherwise not
changed. The type's unsigned immediates, which the block never makes, would be zero-extended (log 18). -/
def widen (i : Immediate) (w : Width) : Immediate :=
  { i with value := if i.signed then sext i.value w else zext i.value w }

/-- The size tag of a resolved operand (10_state.md R46). -/
def operandWidth : ResolvedOperand → Width
  | .reg _ w => w
  | .seg _ => .w16
  | .imm i => i.value.width
  | .mem _ w => w

/-- The parsed immediate, widened to the operand before it when that is larger (40_decode_pipeline.md R156, R157). -/
def immediateAfter (ops : List ResolvedOperand) (v : Sized) : Immediate :=
  match ops.getLast? with
  | some o => widen ⟨v, true⟩ (operandWidth o)
  | none => ⟨v, true⟩

/-! ## The manual notation of a template -/

/-- The addressing methods of `from_addressing` (30_encoding.md R105). -/
inductive Method where
  | E | G | M | I
deriving DecidableEq, Repr

/-- The operand types of `from_addressing` that have a meaning (30_encoding.md R105); type D has none (D50). -/
inductive OperandType where
  | b | v | z
deriving DecidableEq, Repr

/-- The size class of an operand type (30_encoding.md R105). -/
def classOf : OperandType → SizeClass
  | .b => .B
  | .v => .V
  | .z => .Z

/-- `from_addressing(method, type, cpu_mode)` (30_encoding.md R105). Z stays a class until the operand is resolved, so the mode
changes nothing (90_conflicts.md C6). -/
def fromAddressing (m : Method) (t : OperandType) (_mode : CpuMode) : Template :=
  match m with
  | .E => .E (classOf t)
  | .G => .G (classOf t)
  | .M => .M (classOf t)
  | .I => .I (classOf t)

/-! ## Resolving a template -/

/-- The size of a register or memory operand of a class (40_decode_pipeline.md R158): 8 for B, eos for the overridable classes
(10_state.md R31). No covered row has a register or memory operand of class Z (log 17). -/
def classWidth (c : SizeClass) (eos : OperandSize) : Width :=
  match c with
  | .B => .w8
  | .V | .Z | .P => eosWidth eos

/-- `Reg(reg(n, w, rexp), w)`. -/
def regOperand (n : BitVec 4) (w : Width) (s : State) : Flow ResolvedOperand :=
  match regName n w s.tx.rex.isSome with
  | some r => .ok (.reg r w) s
  | none => .fault (.noSuchRegister n)

/-- The ModR/M record a template reads; without one the guard of 40_decode_pipeline.md R159 raises InvalidModRM, which no row
of the map reaches (60_exceptions.md R408, log 15). -/
def needModRM (s : State) : Flow ModRM :=
  match s.tx.modrm with
  | some m => .ok m s
  | none => .raise .invalidModRM s

/-- `E(c)` and `M(c)`: the register of a direct form, else the memory descriptor at a legal address size
(40_decode_pipeline.md R150, R151). -/
def resolveRM (c : SizeClass) (s : State) : Flow ResolvedOperand :=
  (needModRM s).bind fun m s =>
  (readable .eos s.tx.eos s).bind fun eos s =>
  match directRegister m with
  | some rm => regOperand rm (classWidth c eos) s
  | none =>
    (readable .eas s.tx.eas s).bind fun eas s =>
    match legalAddrSize s.mode eas, memDescriptor s.mode eas m s.tx.sib s.tx.disp with
    | true, some d => .ok (.mem d (classWidth c eos)) s
    | _, _ => .raise (.invalidAddressSize s.mode eas) s

/-- `G(c)` (40_decode_pipeline.md R152). -/
def resolveG (c : SizeClass) (s : State) : Flow ResolvedOperand :=
  (needModRM s).bind fun m s =>
  (readable .eos s.tx.eos s).bind fun eos s =>
  regOperand m.reg (classWidth c eos) s

/-- The register number in the low 3 bits of an opcode byte, REX.B-extended in 64-bit mode (40_decode_pipeline.md R153). -/
def opcodeReg (mode : CpuMode) (rex : Option Rex) (b : Byte) : BitVec 4 := extend mode (rexBit Rex.b rex) (bits b 0 3)

/-- `O(c)` (40_decode_pipeline.md R153). -/
def resolveO (c : SizeClass) (s : State) : Flow ResolvedOperand :=
  (readable .opbytes s.tx.opbytes.head? s).bind fun b s =>
  (readable .eos s.tx.eos s).bind fun eos s =>
  regOperand (opcodeReg s.mode s.tx.rex b) (classWidth c eos) s

/-- `I(c)`: the immediate is read at the cursor (40_decode_pipeline.md R155 to R157). -/
def resolveI (c : SizeClass) (s : State) : Flow ResolvedOperand :=
  (readable .eos s.tx.eos s).bind fun eos s =>
  (readSized (immWidth c eos) s).bind fun v s =>
  .ok (.imm (immediateAfter s.tx.ops v)) s

/-- `Family(f, c)` (40_decode_pipeline.md R154). -/
def resolveFamily (f : Family) (c : SizeClass) (s : State) : Flow ResolvedOperand :=
  (readable .eos s.tx.eos s).bind fun eos s =>
  .ok (.reg (familyAt f (classWidth c eos)) (classWidth c eos)) s

/-- One template resolved into one operand (40_decode_pipeline.md R149 to R158). -/
def resolve (t : Template) (s : State) : Flow ResolvedOperand :=
  match t with
  | .E c => resolveRM c s
  | .M c => resolveRM c s
  | .G c => resolveG c s
  | .I c => resolveI c s
  | .O c => resolveO c s
  | .Fixed r => .ok (.reg r (regWidth r)) s
  | .Family f c => resolveFamily f c s
  | .Seg r => .ok (.seg r) s

/-- All templates, left to right, each operand appended to ops (40_decode_pipeline.md R149). -/
def resolveAll : List Template → State → Flow Unit
  | [], s => .ok () s
  | t :: ts, s => (resolve t s).bind fun o s => resolveAll ts (s.pushOp o)

end Sys2Proof.Machine
end

