-- ==== Sys2Proof/Machine/Pipeline.lean ====
section
/-! DEFINITION. The stages every opcode row shares, from HaveOpcode to Done (40_decode_pipeline.md R130, R131, R140 to R160), and the operations the meanings are one line over. -/

namespace Sys2Proof.Machine

/-- The SIB stage: a SIB byte follows exactly the Sib form (40_decode_pipeline.md R141, 30_encoding.md R100). -/
def sibStage (m : ModRM) (s : State) : Flow (Option Sib) :=
  match m.form with
  | .sib =>
    (read8 s).bind fun b s =>
    let x := decodeSib b (modOf m.raw) s.mode s.tx.rex
    .ok (some x) (s.setSib x)
  | .base _ | .noBase | .pair16 _ _ | .noBase16 | .direct _ => .ok none s

/-- The displacement stage (40_decode_pipeline.md R142). -/
def dispStage (m : ModRM) (sib : Option Sib) (s : State) : Flow Unit :=
  match dispWidth m sib with
  | some w => (readSized w s).bind fun d s => .ok () (s.setDisp d)
  | none => .ok () s

/-- The ModR/M, SIB and displacement stages of a row whose encoding has a ModR/M byte (40_decode_pipeline.md R140 to R142). -/
def modrmStage (s : State) : Flow Unit :=
  (read8 s).bind fun b s =>
  let m := decodeModRM b s.mode s.tx.rex
  (sibStage m (s.setModRM m)).bind fun sib s =>
  (dispStage m sib s).bind fun _ s =>
  .ok () (s.setStage .haveModRM)

/-- The Instruction packaged from the fields of the transaction (40_decode_pipeline.md R160, 10_state.md R45). -/
def assemble (e : Entry) (eos : OperandSize) (s : State) : Instruction where
  mode := s.mode
  prefixes := s.tx.prefixes
  rex := s.tx.rex
  opcode := e.identity
  encoding := e.encoding
  opbytes := s.tx.opbytes
  modrm := s.tx.modrm
  sib := s.tx.sib
  disp := s.tx.disp
  operands := s.tx.ops
  opsize := eos
  length := s.pos - s.tx.start

/-- From Done: the Instruction (40_decode_pipeline.md R160). -/
def fromDone (s : State) : Flow Instruction :=
  (readable .entry s.tx.entry s).bind fun e s =>
  (readable .eos s.tx.eos s).bind fun eos s =>
  .ok (assemble e eos s) s

/-- From Resolving: the templates not yet resolved, left to right (40_decode_pipeline.md R149). -/
def fromResolving (s : State) : Flow Instruction :=
  (readable .entry s.tx.entry s).bind fun e s =>
  (resolveAll (e.templates.drop s.tx.ops.length) s).bind fun _ s =>
  fromDone (s.setStage .done)

/-- From HaveModRM, or from HaveOpcode of a row without a ModR/M byte: the two sizes, once per instruction
(40_decode_pipeline.md R145, R146, R148). -/
def fromHaveModRM (s : State) : Flow Instruction :=
  fromResolving (s.setSizes (eosOf s.mode s.tx.prefixes s.tx.rex) (easOf s.mode s.tx.prefixes))

/-- From HaveOpcode: a ModR/M byte is read exactly by the encodings M, MI, MR and RM (40_decode_pipeline.md R140, R143). -/
def fromHaveOpcode (s : State) : Flow Instruction :=
  (readable .entry s.tx.entry s).bind fun e s =>
  if e.encoding.hasModRM then (modrmStage s).bind fun _ s => fromHaveModRM s
  else fromHaveModRM s

/-! ## What a row does -/

/-- The outcome type of every meaning. -/
abbrev Out := Host.Outcome State Fault Refusal

/-- A row with an entry: its opcode bytes are consumed, `entry <- (identity, encoding, templates)`, then the pipeline from state
HaveOpcode (40_decode_pipeline.md R131, and the Pseudocode of every row of files 42 to 47). -/
def runEntry (opbytes : List Byte) (identity : OpcodeIdentity) (encoding : Encoding) (templates : List Template)
    (s : State) : Out :=
  (fromHaveOpcode ((s.advance opbytes.length).setEntry opbytes ⟨identity, encoding, templates⟩)).outcome

/-- A row that is an error: its n bytes are consumed, then the error is raised (60_exceptions.md R411). -/
def runError (n : Nat) (e : DecodeError) (s : State) : Out := .next (raiseError e (s.advance n))

/-- A legacy prefix byte (40_decode_pipeline.md R132, R134, 60_exceptions.md R402): after a REX byte, or as the fourth prefix, it
raises InvalidPrefix with that byte consumed; else it is recorded and the transaction stays in AwaitingOpcode. -/
def runPrefix (p : Prefix) (s : State) : Out :=
  if s.tx.rex.isSome then runError 1 (.invalidPrefix (.afterRex p.byte)) s
  else if Config.prefixCap ≤ s.tx.prefixes.length then runError 1 (.invalidPrefix (.fourth p)) s
  else .next ((s.advance 1).pushPrefix p)

/-- A REX byte (40_decode_pipeline.md R134): recorded, entering HaveRex; a second one raises InvalidPrefix. -/
def runRex (r : Rex) (s : State) : Out :=
  if s.tx.rex.isSome then runError 1 (.invalidPrefix (.afterRex r.raw)) s
  else .next ((s.advance 1).setRex r)

/-- The lookup lacks a byte after `consumed` bytes of the row: NotEnoughBytes 1 there (60_exceptions.md R401, R411). -/
def runReject : Reject → State → Out
  | .notEnoughBytes consumed, s => runError consumed (.notEnoughBytes 1) s

/-- The rest of a transaction that stands past its lookup (40_decode_pipeline.md R130). A row runs all of it in one step
(log 1), so no run stops there; from AwaitingOpcode and HaveRex the next thing is a lookup. -/
def resume (s : State) : Option Out :=
  match s.tx.stage with
  | .awaitingOpcode | .haveRex => none
  | .haveOpcode => some (fromHaveOpcode s).outcome
  | .haveModRM => some (fromHaveModRM s).outcome
  | .resolving => some (fromResolving s).outcome
  | .done => some (fromDone s).outcome

end Sys2Proof.Machine
end

