-- ==== Sys2Proof/Machine/Alu.lean ====
section
/-! DEFINITION. The ALU rows 0x00 to 0x3D (42_alu.md R200 to R247). -/

namespace Sys2Proof.Machine

/-- `Add_Eb__Gb`, R200: opcode 0x00. Its ModR/M byte is consumed too (R99), so the zero bytes
of the example of 47_unknown.md R321 are two transactions in a linear run and not its four (DEDUCED, log 23). -/
def execAddEbGb (s : State) : Out := runEntry [0x00] .add .MR [.E .B, .G .B] s

/-- `Add_Ev__Gv`, R201: opcode 0x01. -/
def execAddEvGv (s : State) : Out := runEntry [0x01] .add .MR [.E .V, .G .V] s

/-- `Add_Gb__Eb`, R202: opcode 0x02. -/
def execAddGbEb (s : State) : Out := runEntry [0x02] .add .RM [.G .B, .E .B] s

/-- `Add_Gv__Ev`, R203: opcode 0x03. -/
def execAddGvEv (s : State) : Out := runEntry [0x03] .add .RM [.G .V, .E .V] s

/-- `Add_AL__Ib`, R204: opcode 0x04. -/
def execAddALIb (s : State) : Out := runEntry [0x04] .add .I [.Fixed .al, .I .B] s

/-- `Add_rAX__Iz`, R205: opcode 0x05. -/
def execAddRAXIz (s : State) : Out := runEntry [0x05] .add .I [.Family .accumulator .V, .I .Z] s

/-- `Or_Eb__Gb`, R206: opcode 0x08. -/
def execOrEbGb (s : State) : Out := runEntry [0x08] .or .MR [.E .B, .G .B] s

/-- `Or_Ev__Gv`, R207: opcode 0x09. -/
def execOrEvGv (s : State) : Out := runEntry [0x09] .or .MR [.E .V, .G .V] s

/-- `Or_Gb__Eb`, R208: opcode 0x0A. -/
def execOrGbEb (s : State) : Out := runEntry [0x0A] .or .RM [.G .B, .E .B] s

/-- `Or_Gv__Ev`, R209: opcode 0x0B. -/
def execOrGvEv (s : State) : Out := runEntry [0x0B] .or .RM [.G .V, .E .V] s

/-- `Or_AL__Ib`, R210: opcode 0x0C. -/
def execOrALIb (s : State) : Out := runEntry [0x0C] .or .I [.Fixed .al, .I .B] s

/-- `Or_rAX__Iz`, R211: opcode 0x0D. -/
def execOrRAXIz (s : State) : Out := runEntry [0x0D] .or .I [.Family .accumulator .V, .I .Z] s

/-- `Adc_Eb__Gb`, R212: opcode 0x10. -/
def execAdcEbGb (s : State) : Out := runEntry [0x10] .adc .MR [.E .B, .G .B] s

/-- `Adc_Ev__Gv`, R213: opcode 0x11. -/
def execAdcEvGv (s : State) : Out := runEntry [0x11] .adc .MR [.E .V, .G .V] s

/-- `Adc_Gb__Eb`, R214: opcode 0x12. -/
def execAdcGbEb (s : State) : Out := runEntry [0x12] .adc .RM [.G .B, .E .B] s

/-- `Adc_Gv__Ev`, R215: opcode 0x13. -/
def execAdcGvEv (s : State) : Out := runEntry [0x13] .adc .RM [.G .V, .E .V] s

/-- `Adc_AL__Ib`, R216: opcode 0x14. -/
def execAdcALIb (s : State) : Out := runEntry [0x14] .adc .I [.Fixed .al, .I .B] s

/-- `Adc_rAX__Iz`, R217: opcode 0x15. -/
def execAdcRAXIz (s : State) : Out := runEntry [0x15] .adc .I [.Family .accumulator .V, .I .Z] s

/-- `Sbb_Eb__Gb`, R218: opcode 0x18. -/
def execSbbEbGb (s : State) : Out := runEntry [0x18] .sbb .MR [.E .B, .G .B] s

/-- `Sbb_Ev__Gv`, R219: opcode 0x19. -/
def execSbbEvGv (s : State) : Out := runEntry [0x19] .sbb .MR [.E .V, .G .V] s

/-- `Sbb_Gb__Eb`, R220: opcode 0x1A. -/
def execSbbGbEb (s : State) : Out := runEntry [0x1A] .sbb .RM [.G .B, .E .B] s

/-- `Sbb_Gv__Ev`, R221: opcode 0x1B. -/
def execSbbGvEv (s : State) : Out := runEntry [0x1B] .sbb .RM [.G .V, .E .V] s

/-- `Sbb_AL__Ib`, R222: opcode 0x1C. -/
def execSbbALIb (s : State) : Out := runEntry [0x1C] .sbb .I [.Fixed .al, .I .B] s

/-- `Sbb_rAX__Iz`, R223: opcode 0x1D. -/
def execSbbRAXIz (s : State) : Out := runEntry [0x1D] .sbb .I [.Family .accumulator .V, .I .Z] s

/-- `And_Eb__Gb`, R224: opcode 0x20. -/
def execAndEbGb (s : State) : Out := runEntry [0x20] .and .MR [.E .B, .G .B] s

/-- `And_Ev__Gv`, R225: opcode 0x21. -/
def execAndEvGv (s : State) : Out := runEntry [0x21] .and .MR [.E .V, .G .V] s

/-- `And_Gb__Eb`, R226: opcode 0x22. -/
def execAndGbEb (s : State) : Out := runEntry [0x22] .and .RM [.G .B, .E .B] s

/-- `And_Gv__Ev`, R227: opcode 0x23. -/
def execAndGvEv (s : State) : Out := runEntry [0x23] .and .RM [.G .V, .E .V] s

/-- `And_AL__Ib`, R228: opcode 0x24. -/
def execAndALIb (s : State) : Out := runEntry [0x24] .and .I [.Fixed .al, .I .B] s

/-- `And_rAX__Iz`, R229: opcode 0x25. -/
def execAndRAXIz (s : State) : Out := runEntry [0x25] .and .I [.Family .accumulator .V, .I .Z] s

/-- `Sub_Eb__Gb`, R230: opcode 0x28. -/
def execSubEbGb (s : State) : Out := runEntry [0x28] .sub .MR [.E .B, .G .B] s

/-- `Sub_Ev__Gv`, R231: opcode 0x29. -/
def execSubEvGv (s : State) : Out := runEntry [0x29] .sub .MR [.E .V, .G .V] s

/-- `Sub_Gb__Eb`, R232: opcode 0x2A. -/
def execSubGbEb (s : State) : Out := runEntry [0x2A] .sub .RM [.G .B, .E .B] s

/-- `Sub_Gv__Ev`, R233: opcode 0x2B. -/
def execSubGvEv (s : State) : Out := runEntry [0x2B] .sub .RM [.G .V, .E .V] s

/-- `Sub_AL__Ib`, R234: opcode 0x2C. -/
def execSubALIb (s : State) : Out := runEntry [0x2C] .sub .I [.Fixed .al, .I .B] s

/-- `Sub_rAX__Iz`, R235: opcode 0x2D. -/
def execSubRAXIz (s : State) : Out := runEntry [0x2D] .sub .I [.Family .accumulator .V, .I .Z] s

/-- `Xor_Eb__Gb`, R236: opcode 0x30. -/
def execXorEbGb (s : State) : Out := runEntry [0x30] .xor .MR [.E .B, .G .B] s

/-- `Xor_Ev__Gv`, R237: opcode 0x31. -/
def execXorEvGv (s : State) : Out := runEntry [0x31] .xor .MR [.E .V, .G .V] s

/-- `Xor_Gb__Eb`, R238: opcode 0x32. -/
def execXorGbEb (s : State) : Out := runEntry [0x32] .xor .RM [.G .B, .E .B] s

/-- `Xor_Gv__Ev`, R239: opcode 0x33. -/
def execXorGvEv (s : State) : Out := runEntry [0x33] .xor .RM [.G .V, .E .V] s

/-- `Xor_AL__Ib`, R240: opcode 0x34. -/
def execXorALIb (s : State) : Out := runEntry [0x34] .xor .I [.Fixed .al, .I .B] s

/-- `Xor_rAX__Iz`, R241: opcode 0x35. -/
def execXorRAXIz (s : State) : Out := runEntry [0x35] .xor .I [.Family .accumulator .V, .I .Z] s

/-- `Cmp_Eb__Gb`, R242: opcode 0x38. -/
def execCmpEbGb (s : State) : Out := runEntry [0x38] .cmp .MR [.E .B, .G .B] s

/-- `Cmp_Ev__Gv`, R243: opcode 0x39. -/
def execCmpEvGv (s : State) : Out := runEntry [0x39] .cmp .MR [.E .V, .G .V] s

/-- `Cmp_Gb__Eb`, R244: opcode 0x3A. -/
def execCmpGbEb (s : State) : Out := runEntry [0x3A] .cmp .RM [.G .B, .E .B] s

/-- `Cmp_Gv__Ev`, R245: opcode 0x3B. -/
def execCmpGvEv (s : State) : Out := runEntry [0x3B] .cmp .RM [.G .V, .E .V] s

/-- `Cmp_AL__Ib`, R246: opcode 0x3C. -/
def execCmpALIb (s : State) : Out := runEntry [0x3C] .cmp .I [.Fixed .al, .I .B] s

/-- `Cmp_rAX__Iz`, R247: opcode 0x3D. -/
def execCmpRAXIz (s : State) : Out := runEntry [0x3D] .cmp .I [.Family .accumulator .V, .I .Z] s

end Sys2Proof.Machine
end

