-- ==== Sys2Proof/Machine/Escape.lean ====
section
/-! DEFINITION. The escape rows (46_escape.md R311 to R316). -/

namespace Sys2Proof.Machine

/-- `EndBr64`, R311: bytes 0F 1E FA. -/
def execEndBr64 (s : State) : Out := runEntry [0x0F, 0x1E, 0xFA] .endBr64 .ZO [] s

/-- `EndBr32`, R316: bytes 0F 1E FB. -/
def execEndBr32 (s : State) : Out := runEntry [0x0F, 0x1E, 0xFB] .endBr32 .ZO [] s

/-- `escape__prefix_other_than_Rep`, R312: nothing after 0x0F is read. -/
def execEscapePrefixOtherThanRep (s : State) : Out := runError 1 (.invalidPrefix (.escape s.tx.prefixes)) s

/-- `escape__no_prefix`, R313. -/
def execEscapeNoPrefix (b2 : Byte) (s : State) : Out := runError 2 (.invalidOpcode 0x0F b2) s

/-- `escape__Rep__second_byte_not_0x1E`, R314. -/
def execEscapeRepSecondByte (b2 : Byte) (s : State) : Out := runError 2 (.invalidOpcode 0x0F b2) s

/-- `escape__Rep__0F_1E__third_byte_not_FA_FB`, R315. -/
def execEscapeRepThirdByte (b3 : Byte) (s : State) : Out := runError 3 (.invalid3ByteOpcode 0x0F 0x1E b3) s

end Sys2Proof.Machine
end

