-- ==== Sys2Proof/Machine/Group1.lean ====
section
/-! DEFINITION. The group 1 rows 0x80 to 0x83 /0 to /7 (43_group1.md R250 to R281). -/

namespace Sys2Proof.Machine

/-- `Add_Eb__Ib`, R250: opcode 0x80 /0. -/
def execAddEbIb80 (s : State) : Out := runEntry [0x80] .add .MI [.E .B, .I .B] s

/-- `Or_Eb__Ib`, R251: opcode 0x80 /1. -/
def execOrEbIb80 (s : State) : Out := runEntry [0x80] .or .MI [.E .B, .I .B] s

/-- `Adc_Eb__Ib`, R252: opcode 0x80 /2. -/
def execAdcEbIb80 (s : State) : Out := runEntry [0x80] .adc .MI [.E .B, .I .B] s

/-- `Sbb_Eb__Ib`, R253: opcode 0x80 /3. -/
def execSbbEbIb80 (s : State) : Out := runEntry [0x80] .sbb .MI [.E .B, .I .B] s

/-- `And_Eb__Ib`, R254: opcode 0x80 /4. -/
def execAndEbIb80 (s : State) : Out := runEntry [0x80] .and .MI [.E .B, .I .B] s

/-- `Sub_Eb__Ib`, R255: opcode 0x80 /5. -/
def execSubEbIb80 (s : State) : Out := runEntry [0x80] .sub .MI [.E .B, .I .B] s

/-- `Xor_Eb__Ib`, R256: opcode 0x80 /6. -/
def execXorEbIb80 (s : State) : Out := runEntry [0x80] .xor .MI [.E .B, .I .B] s

/-- `Cmp_Eb__Ib`, R257: opcode 0x80 /7. -/
def execCmpEbIb80 (s : State) : Out := runEntry [0x80] .cmp .MI [.E .B, .I .B] s

/-- `Add_Ev__Iz`, R258: opcode 0x81 /0. -/
def execAddEvIz (s : State) : Out := runEntry [0x81] .add .MI [.E .V, .I .Z] s

/-- `Or_Ev__Iz`, R259: opcode 0x81 /1. -/
def execOrEvIz (s : State) : Out := runEntry [0x81] .or .MI [.E .V, .I .Z] s

/-- `Adc_Ev__Iz`, R260: opcode 0x81 /2. -/
def execAdcEvIz (s : State) : Out := runEntry [0x81] .adc .MI [.E .V, .I .Z] s

/-- `Sbb_Ev__Iz`, R261: opcode 0x81 /3. -/
def execSbbEvIz (s : State) : Out := runEntry [0x81] .sbb .MI [.E .V, .I .Z] s

/-- `And_Ev__Iz`, R262: opcode 0x81 /4. -/
def execAndEvIz (s : State) : Out := runEntry [0x81] .and .MI [.E .V, .I .Z] s

/-- `Sub_Ev__Iz`, R263: opcode 0x81 /5. -/
def execSubEvIz (s : State) : Out := runEntry [0x81] .sub .MI [.E .V, .I .Z] s

/-- `Xor_Ev__Iz`, R264: opcode 0x81 /6. -/
def execXorEvIz (s : State) : Out := runEntry [0x81] .xor .MI [.E .V, .I .Z] s

/-- `Cmp_Ev__Iz`, R265: opcode 0x81 /7. -/
def execCmpEvIz (s : State) : Out := runEntry [0x81] .cmp .MI [.E .V, .I .Z] s

/-- `Add_Eb__Ib`, R266: opcode 0x82 /0. -/
def execAddEbIb82 (s : State) : Out := runEntry [0x82] .add .MI [.E .B, .I .B] s

/-- `Or_Eb__Ib`, R267: opcode 0x82 /1. -/
def execOrEbIb82 (s : State) : Out := runEntry [0x82] .or .MI [.E .B, .I .B] s

/-- `Adc_Eb__Ib`, R268: opcode 0x82 /2. -/
def execAdcEbIb82 (s : State) : Out := runEntry [0x82] .adc .MI [.E .B, .I .B] s

/-- `Sbb_Eb__Ib`, R269: opcode 0x82 /3. -/
def execSbbEbIb82 (s : State) : Out := runEntry [0x82] .sbb .MI [.E .B, .I .B] s

/-- `And_Eb__Ib`, R270: opcode 0x82 /4. -/
def execAndEbIb82 (s : State) : Out := runEntry [0x82] .and .MI [.E .B, .I .B] s

/-- `Sub_Eb__Ib`, R271: opcode 0x82 /5. -/
def execSubEbIb82 (s : State) : Out := runEntry [0x82] .sub .MI [.E .B, .I .B] s

/-- `Xor_Eb__Ib`, R272: opcode 0x82 /6. -/
def execXorEbIb82 (s : State) : Out := runEntry [0x82] .xor .MI [.E .B, .I .B] s

/-- `Cmp_Eb__Ib`, R273: opcode 0x82 /7. -/
def execCmpEbIb82 (s : State) : Out := runEntry [0x82] .cmp .MI [.E .B, .I .B] s

/-- `Add_Ev__Ib`, R274: opcode 0x83 /0. -/
def execAddEvIb (s : State) : Out := runEntry [0x83] .add .MI [.E .V, .I .B] s

/-- `Or_Ev__Ib`, R275: opcode 0x83 /1. -/
def execOrEvIb (s : State) : Out := runEntry [0x83] .or .MI [.E .V, .I .B] s

/-- `Adc_Ev__Ib`, R276: opcode 0x83 /2. -/
def execAdcEvIb (s : State) : Out := runEntry [0x83] .adc .MI [.E .V, .I .B] s

/-- `Sbb_Ev__Ib`, R277: opcode 0x83 /3. -/
def execSbbEvIb (s : State) : Out := runEntry [0x83] .sbb .MI [.E .V, .I .B] s

/-- `And_Ev__Ib`, R278: opcode 0x83 /4. -/
def execAndEvIb (s : State) : Out := runEntry [0x83] .and .MI [.E .V, .I .B] s

/-- `Sub_Ev__Ib`, R279: opcode 0x83 /5. -/
def execSubEvIb (s : State) : Out := runEntry [0x83] .sub .MI [.E .V, .I .B] s

/-- `Xor_Ev__Ib`, R280: opcode 0x83 /6. -/
def execXorEvIb (s : State) : Out := runEntry [0x83] .xor .MI [.E .V, .I .B] s

/-- `Cmp_Ev__Ib`, R281: opcode 0x83 /7. -/
def execCmpEvIb (s : State) : Out := runEntry [0x83] .cmp .MI [.E .V, .I .B] s

end Sys2Proof.Machine
end

