-- ==== Sys2Proof/Machine/Group5.lean ====
section
/-! DEFINITION. The group 5 rows 0xFF /0 to /7 (44_group5.md R290 to R297). -/

namespace Sys2Proof.Machine

/-- `Inc_Ev`, R290: opcode 0xFF /0. -/
def execIncEv (s : State) : Out := runEntry [0xFF] .inc .M [.E .V] s

/-- `Dec_Ev`, R291: opcode 0xFF /1. -/
def execDecEv (s : State) : Out := runEntry [0xFF] .dec .M [.E .V] s

/-- `CallNear_Ev`, R292: opcode 0xFF /2. -/
def execCallNearEv (s : State) : Out := runEntry [0xFF] .callNear .M [.E .V] s

/-- `CallFar_Mp`, R293: opcode 0xFF /3. -/
def execCallFarMp (s : State) : Out := runEntry [0xFF] .callFar .M [.M .P] s

/-- `JmpNear_Ev`, R294: opcode 0xFF /4. -/
def execJmpNearEv (s : State) : Out := runEntry [0xFF] .jmpNear .M [.E .V] s

/-- `JmpFar_Mp`, R295: opcode 0xFF /5. -/
def execJmpFarMp (s : State) : Out := runEntry [0xFF] .jmpFar .M [.M .P] s

/-- `Push_Ev`, R296: opcode 0xFF /6. -/
def execPushEv (s : State) : Out := runEntry [0xFF] .push .M [.E .V] s

/-- `reserved_FF__7`, R297: the peeked ModR/M byte is not consumed. -/
def execReservedFF7 (s : State) : Out := runError 1 (.invalidExtension 0xFF 7) s

end Sys2Proof.Machine
end

