-- ==== Sys2Proof/Machine/MovLea.lean ====
section
/-! DEFINITION. Mov, Lea, Push, Inc and Dec (45_mov_lea_push_incdec.md R300 to R309). -/

namespace Sys2Proof.Machine

/-- `Mov_Ev__Gv`, R300: opcode 0x89. -/
def execMovEvGv (s : State) : Out := runEntry [0x89] .mov .MR [.E .V, .G .V] s

/-- `Lea_Gv__Mv`, R301: opcode 0x8D. -/
def execLeaGvMv (s : State) : Out := runEntry [0x8D] .lea .RM [.G .V, .M .V] s

/-- `Push_rv`, R302: byte 0x50 + r. -/
def execPushRv (r : BitVec 3) (s : State) : Out := runEntry [0b01010#5 ++ r] .push .O [.O .V] s

/-- `Inc_rv`, R304: byte 0x40 + r. -/
def execIncRv (r : BitVec 3) (s : State) : Out := runEntry [0b01000#5 ++ r] .inc .O [.O .V] s

/-- `Dec_rv`, R305: byte 0x48 + r. -/
def execDecRv (r : BitVec 3) (s : State) : Out := runEntry [0b01001#5 ++ r] .dec .O [.O .V] s

/-- `Push_ES`, R306: opcode 0x06. -/
def execPushES (s : State) : Out := runEntry [0x06] .push .ZO [.Seg .es] s

/-- `Push_CS`, R307: opcode 0x0E. -/
def execPushCS (s : State) : Out := runEntry [0x0E] .push .ZO [.Seg .cs] s

/-- `Push_SS`, R308: opcode 0x16. -/
def execPushSS (s : State) : Out := runEntry [0x16] .push .ZO [.Seg .ss] s

/-- `Push_DS`, R309: opcode 0x1E. -/
def execPushDS (s : State) : Out := runEntry [0x1E] .push .ZO [.Seg .ds] s

end Sys2Proof.Machine
end

