-- ==== Sys2Proof/Machine/Prefix.lean ====
section
/-! DEFINITION. The prefix rows and the REX row (41_prefix_rex.md R180 to R191). -/

namespace Sys2Proof.Machine

/-- `prefix_Lock`, R180: byte 0xF0. -/
def execPrefixLock (s : State) : Out := runPrefix .lock s

/-- `prefix_RepNE`, R181: byte 0xF2. -/
def execPrefixRepNE (s : State) : Out := runPrefix .repNE s

/-- `prefix_Rep`, R182: byte 0xF3. -/
def execPrefixRep (s : State) : Out := runPrefix .rep s

/-- `prefix_SegES`, R183: byte 0x26. -/
def execPrefixSegES (s : State) : Out := runPrefix .segES s

/-- `prefix_SegCS`, R184: byte 0x2E. -/
def execPrefixSegCS (s : State) : Out := runPrefix .segCS s

/-- `prefix_SegSS`, R185: byte 0x36. -/
def execPrefixSegSS (s : State) : Out := runPrefix .segSS s

/-- `prefix_SegDS`, R186: byte 0x3E. -/
def execPrefixSegDS (s : State) : Out := runPrefix .segDS s

/-- `prefix_SegFS`, R187: byte 0x64. -/
def execPrefixSegFS (s : State) : Out := runPrefix .segFS s

/-- `prefix_SegGS`, R188: byte 0x65. -/
def execPrefixSegGS (s : State) : Out := runPrefix .segGS s

/-- `prefix_OperandSizeOverride`, R189: byte 0x66. -/
def execPrefixOperandSizeOverride (s : State) : Out := runPrefix .operandSizeOverride s

/-- `prefix_AddressSizeOverride`, R190: byte 0x67. -/
def execPrefixAddressSizeOverride (s : State) : Out := runPrefix .addressSizeOverride s

/-- `REX`, R191: 0100WRXB in 64-bit mode. -/
def execRex (w : Bool) (r : Bool) (x : Bool) (b : Bool) (s : State) : Out := runRex ⟨w, r, x, b⟩ s

end Sys2Proof.Machine
end

