-- ==== Sys2Proof/Machine/Unknown.lean ====
section
/-! DEFINITION. The 161 Unknown rows (47_unknown.md R320, R321): one opcode byte, no operands, not an error. -/

namespace Sys2Proof.Machine

/-- `Unknown__0x07`, R320: opcode 0x07. -/
def execUnknown07 (s : State) : Out := runEntry [0x07] .unknown .ZO [] s

/-- `Unknown__0x17`, R320: opcode 0x17. -/
def execUnknown17 (s : State) : Out := runEntry [0x17] .unknown .ZO [] s

/-- `Unknown__0x1F`, R320: opcode 0x1F. -/
def execUnknown1F (s : State) : Out := runEntry [0x1F] .unknown .ZO [] s

/-- `Unknown__0x27`, R320: opcode 0x27. -/
def execUnknown27 (s : State) : Out := runEntry [0x27] .unknown .ZO [] s

/-- `Unknown__0x2F`, R320: opcode 0x2F. -/
def execUnknown2F (s : State) : Out := runEntry [0x2F] .unknown .ZO [] s

/-- `Unknown__0x37`, R320: opcode 0x37. -/
def execUnknown37 (s : State) : Out := runEntry [0x37] .unknown .ZO [] s

/-- `Unknown__0x3F`, R320: opcode 0x3F. -/
def execUnknown3F (s : State) : Out := runEntry [0x3F] .unknown .ZO [] s

/-- `Unknown__0x58`, R320: opcode 0x58. -/
def execUnknown58 (s : State) : Out := runEntry [0x58] .unknown .ZO [] s

/-- `Unknown__0x59`, R320: opcode 0x59. -/
def execUnknown59 (s : State) : Out := runEntry [0x59] .unknown .ZO [] s

/-- `Unknown__0x5A`, R320: opcode 0x5A. -/
def execUnknown5A (s : State) : Out := runEntry [0x5A] .unknown .ZO [] s

/-- `Unknown__0x5B`, R320: opcode 0x5B. -/
def execUnknown5B (s : State) : Out := runEntry [0x5B] .unknown .ZO [] s

/-- `Unknown__0x5C`, R320: opcode 0x5C. -/
def execUnknown5C (s : State) : Out := runEntry [0x5C] .unknown .ZO [] s

/-- `Unknown__0x5D`, R320: opcode 0x5D. -/
def execUnknown5D (s : State) : Out := runEntry [0x5D] .unknown .ZO [] s

/-- `Unknown__0x5E`, R320: opcode 0x5E. -/
def execUnknown5E (s : State) : Out := runEntry [0x5E] .unknown .ZO [] s

/-- `Unknown__0x5F`, R320: opcode 0x5F. -/
def execUnknown5F (s : State) : Out := runEntry [0x5F] .unknown .ZO [] s

/-- `Unknown__0x60`, R320: opcode 0x60. -/
def execUnknown60 (s : State) : Out := runEntry [0x60] .unknown .ZO [] s

/-- `Unknown__0x61`, R320: opcode 0x61. -/
def execUnknown61 (s : State) : Out := runEntry [0x61] .unknown .ZO [] s

/-- `Unknown__0x62`, R320: opcode 0x62. -/
def execUnknown62 (s : State) : Out := runEntry [0x62] .unknown .ZO [] s

/-- `Unknown__0x63`, R320: opcode 0x63. -/
def execUnknown63 (s : State) : Out := runEntry [0x63] .unknown .ZO [] s

/-- `Unknown__0x68`, R320: opcode 0x68. -/
def execUnknown68 (s : State) : Out := runEntry [0x68] .unknown .ZO [] s

/-- `Unknown__0x69`, R320: opcode 0x69. -/
def execUnknown69 (s : State) : Out := runEntry [0x69] .unknown .ZO [] s

/-- `Unknown__0x6A`, R320: opcode 0x6A. -/
def execUnknown6A (s : State) : Out := runEntry [0x6A] .unknown .ZO [] s

/-- `Unknown__0x6B`, R320: opcode 0x6B. -/
def execUnknown6B (s : State) : Out := runEntry [0x6B] .unknown .ZO [] s

/-- `Unknown__0x6C`, R320: opcode 0x6C. -/
def execUnknown6C (s : State) : Out := runEntry [0x6C] .unknown .ZO [] s

/-- `Unknown__0x6D`, R320: opcode 0x6D. -/
def execUnknown6D (s : State) : Out := runEntry [0x6D] .unknown .ZO [] s

/-- `Unknown__0x6E`, R320: opcode 0x6E. -/
def execUnknown6E (s : State) : Out := runEntry [0x6E] .unknown .ZO [] s

/-- `Unknown__0x6F`, R320: opcode 0x6F. -/
def execUnknown6F (s : State) : Out := runEntry [0x6F] .unknown .ZO [] s

/-- `Unknown__0x70`, R320: opcode 0x70. -/
def execUnknown70 (s : State) : Out := runEntry [0x70] .unknown .ZO [] s

/-- `Unknown__0x71`, R320: opcode 0x71. -/
def execUnknown71 (s : State) : Out := runEntry [0x71] .unknown .ZO [] s

/-- `Unknown__0x72`, R320: opcode 0x72. -/
def execUnknown72 (s : State) : Out := runEntry [0x72] .unknown .ZO [] s

/-- `Unknown__0x73`, R320: opcode 0x73. -/
def execUnknown73 (s : State) : Out := runEntry [0x73] .unknown .ZO [] s

/-- `Unknown__0x74`, R320: opcode 0x74. -/
def execUnknown74 (s : State) : Out := runEntry [0x74] .unknown .ZO [] s

/-- `Unknown__0x75`, R320: opcode 0x75. -/
def execUnknown75 (s : State) : Out := runEntry [0x75] .unknown .ZO [] s

/-- `Unknown__0x76`, R320: opcode 0x76. -/
def execUnknown76 (s : State) : Out := runEntry [0x76] .unknown .ZO [] s

/-- `Unknown__0x77`, R320: opcode 0x77. -/
def execUnknown77 (s : State) : Out := runEntry [0x77] .unknown .ZO [] s

/-- `Unknown__0x78`, R320: opcode 0x78. -/
def execUnknown78 (s : State) : Out := runEntry [0x78] .unknown .ZO [] s

/-- `Unknown__0x79`, R320: opcode 0x79. -/
def execUnknown79 (s : State) : Out := runEntry [0x79] .unknown .ZO [] s

/-- `Unknown__0x7A`, R320: opcode 0x7A. -/
def execUnknown7A (s : State) : Out := runEntry [0x7A] .unknown .ZO [] s

/-- `Unknown__0x7B`, R320: opcode 0x7B. -/
def execUnknown7B (s : State) : Out := runEntry [0x7B] .unknown .ZO [] s

/-- `Unknown__0x7C`, R320: opcode 0x7C. -/
def execUnknown7C (s : State) : Out := runEntry [0x7C] .unknown .ZO [] s

/-- `Unknown__0x7D`, R320: opcode 0x7D. -/
def execUnknown7D (s : State) : Out := runEntry [0x7D] .unknown .ZO [] s

/-- `Unknown__0x7E`, R320: opcode 0x7E. -/
def execUnknown7E (s : State) : Out := runEntry [0x7E] .unknown .ZO [] s

/-- `Unknown__0x7F`, R320: opcode 0x7F. -/
def execUnknown7F (s : State) : Out := runEntry [0x7F] .unknown .ZO [] s

/-- `Unknown__0x84`, R320: opcode 0x84. -/
def execUnknown84 (s : State) : Out := runEntry [0x84] .unknown .ZO [] s

/-- `Unknown__0x85`, R320: opcode 0x85. -/
def execUnknown85 (s : State) : Out := runEntry [0x85] .unknown .ZO [] s

/-- `Unknown__0x86`, R320: opcode 0x86. -/
def execUnknown86 (s : State) : Out := runEntry [0x86] .unknown .ZO [] s

/-- `Unknown__0x87`, R320: opcode 0x87. -/
def execUnknown87 (s : State) : Out := runEntry [0x87] .unknown .ZO [] s

/-- `Unknown__0x88`, R320: opcode 0x88. -/
def execUnknown88 (s : State) : Out := runEntry [0x88] .unknown .ZO [] s

/-- `Unknown__0x8A`, R320: opcode 0x8A. -/
def execUnknown8A (s : State) : Out := runEntry [0x8A] .unknown .ZO [] s

/-- `Unknown__0x8B`, R320: opcode 0x8B. -/
def execUnknown8B (s : State) : Out := runEntry [0x8B] .unknown .ZO [] s

/-- `Unknown__0x8C`, R320: opcode 0x8C. -/
def execUnknown8C (s : State) : Out := runEntry [0x8C] .unknown .ZO [] s

/-- `Unknown__0x8E`, R320: opcode 0x8E. -/
def execUnknown8E (s : State) : Out := runEntry [0x8E] .unknown .ZO [] s

/-- `Unknown__0x8F`, R320: opcode 0x8F. -/
def execUnknown8F (s : State) : Out := runEntry [0x8F] .unknown .ZO [] s

/-- `Unknown__0x90`, R320: opcode 0x90. -/
def execUnknown90 (s : State) : Out := runEntry [0x90] .unknown .ZO [] s

/-- `Unknown__0x91`, R320: opcode 0x91. -/
def execUnknown91 (s : State) : Out := runEntry [0x91] .unknown .ZO [] s

/-- `Unknown__0x92`, R320: opcode 0x92. -/
def execUnknown92 (s : State) : Out := runEntry [0x92] .unknown .ZO [] s

/-- `Unknown__0x93`, R320: opcode 0x93. -/
def execUnknown93 (s : State) : Out := runEntry [0x93] .unknown .ZO [] s

/-- `Unknown__0x94`, R320: opcode 0x94. -/
def execUnknown94 (s : State) : Out := runEntry [0x94] .unknown .ZO [] s

/-- `Unknown__0x95`, R320: opcode 0x95. -/
def execUnknown95 (s : State) : Out := runEntry [0x95] .unknown .ZO [] s

/-- `Unknown__0x96`, R320: opcode 0x96. -/
def execUnknown96 (s : State) : Out := runEntry [0x96] .unknown .ZO [] s

/-- `Unknown__0x97`, R320: opcode 0x97. -/
def execUnknown97 (s : State) : Out := runEntry [0x97] .unknown .ZO [] s

/-- `Unknown__0x98`, R320: opcode 0x98. -/
def execUnknown98 (s : State) : Out := runEntry [0x98] .unknown .ZO [] s

/-- `Unknown__0x99`, R320: opcode 0x99. -/
def execUnknown99 (s : State) : Out := runEntry [0x99] .unknown .ZO [] s

/-- `Unknown__0x9A`, R320: opcode 0x9A. -/
def execUnknown9A (s : State) : Out := runEntry [0x9A] .unknown .ZO [] s

/-- `Unknown__0x9B`, R320: opcode 0x9B. -/
def execUnknown9B (s : State) : Out := runEntry [0x9B] .unknown .ZO [] s

/-- `Unknown__0x9C`, R320: opcode 0x9C. -/
def execUnknown9C (s : State) : Out := runEntry [0x9C] .unknown .ZO [] s

/-- `Unknown__0x9D`, R320: opcode 0x9D. -/
def execUnknown9D (s : State) : Out := runEntry [0x9D] .unknown .ZO [] s

/-- `Unknown__0x9E`, R320: opcode 0x9E. -/
def execUnknown9E (s : State) : Out := runEntry [0x9E] .unknown .ZO [] s

/-- `Unknown__0x9F`, R320: opcode 0x9F. -/
def execUnknown9F (s : State) : Out := runEntry [0x9F] .unknown .ZO [] s

/-- `Unknown__0xA0`, R320: opcode 0xA0. -/
def execUnknownA0 (s : State) : Out := runEntry [0xA0] .unknown .ZO [] s

/-- `Unknown__0xA1`, R320: opcode 0xA1. -/
def execUnknownA1 (s : State) : Out := runEntry [0xA1] .unknown .ZO [] s

/-- `Unknown__0xA2`, R320: opcode 0xA2. -/
def execUnknownA2 (s : State) : Out := runEntry [0xA2] .unknown .ZO [] s

/-- `Unknown__0xA3`, R320: opcode 0xA3. -/
def execUnknownA3 (s : State) : Out := runEntry [0xA3] .unknown .ZO [] s

/-- `Unknown__0xA4`, R320: opcode 0xA4. -/
def execUnknownA4 (s : State) : Out := runEntry [0xA4] .unknown .ZO [] s

/-- `Unknown__0xA5`, R320: opcode 0xA5. -/
def execUnknownA5 (s : State) : Out := runEntry [0xA5] .unknown .ZO [] s

/-- `Unknown__0xA6`, R320: opcode 0xA6. -/
def execUnknownA6 (s : State) : Out := runEntry [0xA6] .unknown .ZO [] s

/-- `Unknown__0xA7`, R320: opcode 0xA7. -/
def execUnknownA7 (s : State) : Out := runEntry [0xA7] .unknown .ZO [] s

/-- `Unknown__0xA8`, R320: opcode 0xA8. -/
def execUnknownA8 (s : State) : Out := runEntry [0xA8] .unknown .ZO [] s

/-- `Unknown__0xA9`, R320: opcode 0xA9. -/
def execUnknownA9 (s : State) : Out := runEntry [0xA9] .unknown .ZO [] s

/-- `Unknown__0xAA`, R320: opcode 0xAA. -/
def execUnknownAA (s : State) : Out := runEntry [0xAA] .unknown .ZO [] s

/-- `Unknown__0xAB`, R320: opcode 0xAB. -/
def execUnknownAB (s : State) : Out := runEntry [0xAB] .unknown .ZO [] s

/-- `Unknown__0xAC`, R320: opcode 0xAC. -/
def execUnknownAC (s : State) : Out := runEntry [0xAC] .unknown .ZO [] s

/-- `Unknown__0xAD`, R320: opcode 0xAD. -/
def execUnknownAD (s : State) : Out := runEntry [0xAD] .unknown .ZO [] s

/-- `Unknown__0xAE`, R320: opcode 0xAE. -/
def execUnknownAE (s : State) : Out := runEntry [0xAE] .unknown .ZO [] s

/-- `Unknown__0xAF`, R320: opcode 0xAF. -/
def execUnknownAF (s : State) : Out := runEntry [0xAF] .unknown .ZO [] s

/-- `Unknown__0xB0`, R320: opcode 0xB0. -/
def execUnknownB0 (s : State) : Out := runEntry [0xB0] .unknown .ZO [] s

/-- `Unknown__0xB1`, R320: opcode 0xB1. -/
def execUnknownB1 (s : State) : Out := runEntry [0xB1] .unknown .ZO [] s

/-- `Unknown__0xB2`, R320: opcode 0xB2. -/
def execUnknownB2 (s : State) : Out := runEntry [0xB2] .unknown .ZO [] s

/-- `Unknown__0xB3`, R320: opcode 0xB3. -/
def execUnknownB3 (s : State) : Out := runEntry [0xB3] .unknown .ZO [] s

/-- `Unknown__0xB4`, R320: opcode 0xB4. -/
def execUnknownB4 (s : State) : Out := runEntry [0xB4] .unknown .ZO [] s

/-- `Unknown__0xB5`, R320: opcode 0xB5. -/
def execUnknownB5 (s : State) : Out := runEntry [0xB5] .unknown .ZO [] s

/-- `Unknown__0xB6`, R320: opcode 0xB6. -/
def execUnknownB6 (s : State) : Out := runEntry [0xB6] .unknown .ZO [] s

/-- `Unknown__0xB7`, R320: opcode 0xB7. -/
def execUnknownB7 (s : State) : Out := runEntry [0xB7] .unknown .ZO [] s

/-- `Unknown__0xB8`, R320: opcode 0xB8. -/
def execUnknownB8 (s : State) : Out := runEntry [0xB8] .unknown .ZO [] s

/-- `Unknown__0xB9`, R320: opcode 0xB9. -/
def execUnknownB9 (s : State) : Out := runEntry [0xB9] .unknown .ZO [] s

/-- `Unknown__0xBA`, R320: opcode 0xBA. -/
def execUnknownBA (s : State) : Out := runEntry [0xBA] .unknown .ZO [] s

/-- `Unknown__0xBB`, R320: opcode 0xBB. -/
def execUnknownBB (s : State) : Out := runEntry [0xBB] .unknown .ZO [] s

/-- `Unknown__0xBC`, R320: opcode 0xBC. -/
def execUnknownBC (s : State) : Out := runEntry [0xBC] .unknown .ZO [] s

/-- `Unknown__0xBD`, R320: opcode 0xBD. -/
def execUnknownBD (s : State) : Out := runEntry [0xBD] .unknown .ZO [] s

/-- `Unknown__0xBE`, R320: opcode 0xBE. -/
def execUnknownBE (s : State) : Out := runEntry [0xBE] .unknown .ZO [] s

/-- `Unknown__0xBF`, R320: opcode 0xBF. -/
def execUnknownBF (s : State) : Out := runEntry [0xBF] .unknown .ZO [] s

/-- `Unknown__0xC0`, R320: opcode 0xC0. -/
def execUnknownC0 (s : State) : Out := runEntry [0xC0] .unknown .ZO [] s

/-- `Unknown__0xC1`, R320: opcode 0xC1. -/
def execUnknownC1 (s : State) : Out := runEntry [0xC1] .unknown .ZO [] s

/-- `Unknown__0xC2`, R320: opcode 0xC2. -/
def execUnknownC2 (s : State) : Out := runEntry [0xC2] .unknown .ZO [] s

/-- `Unknown__0xC3`, R320: opcode 0xC3. -/
def execUnknownC3 (s : State) : Out := runEntry [0xC3] .unknown .ZO [] s

/-- `Unknown__0xC4`, R320: opcode 0xC4. -/
def execUnknownC4 (s : State) : Out := runEntry [0xC4] .unknown .ZO [] s

/-- `Unknown__0xC5`, R320: opcode 0xC5. -/
def execUnknownC5 (s : State) : Out := runEntry [0xC5] .unknown .ZO [] s

/-- `Unknown__0xC6`, R320: opcode 0xC6. -/
def execUnknownC6 (s : State) : Out := runEntry [0xC6] .unknown .ZO [] s

/-- `Unknown__0xC7`, R320: opcode 0xC7. -/
def execUnknownC7 (s : State) : Out := runEntry [0xC7] .unknown .ZO [] s

/-- `Unknown__0xC8`, R320: opcode 0xC8. -/
def execUnknownC8 (s : State) : Out := runEntry [0xC8] .unknown .ZO [] s

/-- `Unknown__0xC9`, R320: opcode 0xC9. -/
def execUnknownC9 (s : State) : Out := runEntry [0xC9] .unknown .ZO [] s

/-- `Unknown__0xCA`, R320: opcode 0xCA. -/
def execUnknownCA (s : State) : Out := runEntry [0xCA] .unknown .ZO [] s

/-- `Unknown__0xCB`, R320: opcode 0xCB. -/
def execUnknownCB (s : State) : Out := runEntry [0xCB] .unknown .ZO [] s

/-- `Unknown__0xCC`, R320: opcode 0xCC. -/
def execUnknownCC (s : State) : Out := runEntry [0xCC] .unknown .ZO [] s

/-- `Unknown__0xCD`, R320: opcode 0xCD. -/
def execUnknownCD (s : State) : Out := runEntry [0xCD] .unknown .ZO [] s

/-- `Unknown__0xCE`, R320: opcode 0xCE. -/
def execUnknownCE (s : State) : Out := runEntry [0xCE] .unknown .ZO [] s

/-- `Unknown__0xCF`, R320: opcode 0xCF. -/
def execUnknownCF (s : State) : Out := runEntry [0xCF] .unknown .ZO [] s

/-- `Unknown__0xD0`, R320: opcode 0xD0. -/
def execUnknownD0 (s : State) : Out := runEntry [0xD0] .unknown .ZO [] s

/-- `Unknown__0xD1`, R320: opcode 0xD1. -/
def execUnknownD1 (s : State) : Out := runEntry [0xD1] .unknown .ZO [] s

/-- `Unknown__0xD2`, R320: opcode 0xD2. -/
def execUnknownD2 (s : State) : Out := runEntry [0xD2] .unknown .ZO [] s

/-- `Unknown__0xD3`, R320: opcode 0xD3. -/
def execUnknownD3 (s : State) : Out := runEntry [0xD3] .unknown .ZO [] s

/-- `Unknown__0xD4`, R320: opcode 0xD4. -/
def execUnknownD4 (s : State) : Out := runEntry [0xD4] .unknown .ZO [] s

/-- `Unknown__0xD5`, R320: opcode 0xD5. -/
def execUnknownD5 (s : State) : Out := runEntry [0xD5] .unknown .ZO [] s

/-- `Unknown__0xD6`, R320: opcode 0xD6. -/
def execUnknownD6 (s : State) : Out := runEntry [0xD6] .unknown .ZO [] s

/-- `Unknown__0xD7`, R320: opcode 0xD7. -/
def execUnknownD7 (s : State) : Out := runEntry [0xD7] .unknown .ZO [] s

/-- `Unknown__0xD8`, R320: opcode 0xD8. -/
def execUnknownD8 (s : State) : Out := runEntry [0xD8] .unknown .ZO [] s

/-- `Unknown__0xD9`, R320: opcode 0xD9. -/
def execUnknownD9 (s : State) : Out := runEntry [0xD9] .unknown .ZO [] s

/-- `Unknown__0xDA`, R320: opcode 0xDA. -/
def execUnknownDA (s : State) : Out := runEntry [0xDA] .unknown .ZO [] s

/-- `Unknown__0xDB`, R320: opcode 0xDB. -/
def execUnknownDB (s : State) : Out := runEntry [0xDB] .unknown .ZO [] s

/-- `Unknown__0xDC`, R320: opcode 0xDC. -/
def execUnknownDC (s : State) : Out := runEntry [0xDC] .unknown .ZO [] s

/-- `Unknown__0xDD`, R320: opcode 0xDD. -/
def execUnknownDD (s : State) : Out := runEntry [0xDD] .unknown .ZO [] s

/-- `Unknown__0xDE`, R320: opcode 0xDE. -/
def execUnknownDE (s : State) : Out := runEntry [0xDE] .unknown .ZO [] s

/-- `Unknown__0xDF`, R320: opcode 0xDF. -/
def execUnknownDF (s : State) : Out := runEntry [0xDF] .unknown .ZO [] s

/-- `Unknown__0xE0`, R320: opcode 0xE0. -/
def execUnknownE0 (s : State) : Out := runEntry [0xE0] .unknown .ZO [] s

/-- `Unknown__0xE1`, R320: opcode 0xE1. -/
def execUnknownE1 (s : State) : Out := runEntry [0xE1] .unknown .ZO [] s

/-- `Unknown__0xE2`, R320: opcode 0xE2. -/
def execUnknownE2 (s : State) : Out := runEntry [0xE2] .unknown .ZO [] s

/-- `Unknown__0xE3`, R320: opcode 0xE3. -/
def execUnknownE3 (s : State) : Out := runEntry [0xE3] .unknown .ZO [] s

/-- `Unknown__0xE4`, R320: opcode 0xE4. -/
def execUnknownE4 (s : State) : Out := runEntry [0xE4] .unknown .ZO [] s

/-- `Unknown__0xE5`, R320: opcode 0xE5. -/
def execUnknownE5 (s : State) : Out := runEntry [0xE5] .unknown .ZO [] s

/-- `Unknown__0xE6`, R320: opcode 0xE6. -/
def execUnknownE6 (s : State) : Out := runEntry [0xE6] .unknown .ZO [] s

/-- `Unknown__0xE7`, R320: opcode 0xE7. -/
def execUnknownE7 (s : State) : Out := runEntry [0xE7] .unknown .ZO [] s

/-- `Unknown__0xE8`, R320: opcode 0xE8. -/
def execUnknownE8 (s : State) : Out := runEntry [0xE8] .unknown .ZO [] s

/-- `Unknown__0xE9`, R320: opcode 0xE9. -/
def execUnknownE9 (s : State) : Out := runEntry [0xE9] .unknown .ZO [] s

/-- `Unknown__0xEA`, R320: opcode 0xEA. -/
def execUnknownEA (s : State) : Out := runEntry [0xEA] .unknown .ZO [] s

/-- `Unknown__0xEB`, R320: opcode 0xEB. -/
def execUnknownEB (s : State) : Out := runEntry [0xEB] .unknown .ZO [] s

/-- `Unknown__0xEC`, R320: opcode 0xEC. -/
def execUnknownEC (s : State) : Out := runEntry [0xEC] .unknown .ZO [] s

/-- `Unknown__0xED`, R320: opcode 0xED. -/
def execUnknownED (s : State) : Out := runEntry [0xED] .unknown .ZO [] s

/-- `Unknown__0xEE`, R320: opcode 0xEE. -/
def execUnknownEE (s : State) : Out := runEntry [0xEE] .unknown .ZO [] s

/-- `Unknown__0xEF`, R320: opcode 0xEF. -/
def execUnknownEF (s : State) : Out := runEntry [0xEF] .unknown .ZO [] s

/-- `Unknown__0xF1`, R320: opcode 0xF1. -/
def execUnknownF1 (s : State) : Out := runEntry [0xF1] .unknown .ZO [] s

/-- `Unknown__0xF4`, R320: opcode 0xF4. -/
def execUnknownF4 (s : State) : Out := runEntry [0xF4] .unknown .ZO [] s

/-- `Unknown__0xF5`, R320: opcode 0xF5. -/
def execUnknownF5 (s : State) : Out := runEntry [0xF5] .unknown .ZO [] s

/-- `Unknown__0xF6`, R320: opcode 0xF6. -/
def execUnknownF6 (s : State) : Out := runEntry [0xF6] .unknown .ZO [] s

/-- `Unknown__0xF7`, R320: opcode 0xF7. -/
def execUnknownF7 (s : State) : Out := runEntry [0xF7] .unknown .ZO [] s

/-- `Unknown__0xF8`, R320: opcode 0xF8. -/
def execUnknownF8 (s : State) : Out := runEntry [0xF8] .unknown .ZO [] s

/-- `Unknown__0xF9`, R320: opcode 0xF9. -/
def execUnknownF9 (s : State) : Out := runEntry [0xF9] .unknown .ZO [] s

/-- `Unknown__0xFA`, R320: opcode 0xFA. -/
def execUnknownFA (s : State) : Out := runEntry [0xFA] .unknown .ZO [] s

/-- `Unknown__0xFB`, R320: opcode 0xFB. -/
def execUnknownFB (s : State) : Out := runEntry [0xFB] .unknown .ZO [] s

/-- `Unknown__0xFC`, R320: opcode 0xFC. -/
def execUnknownFC (s : State) : Out := runEntry [0xFC] .unknown .ZO [] s

/-- `Unknown__0xFD`, R320: opcode 0xFD. -/
def execUnknownFD (s : State) : Out := runEntry [0xFD] .unknown .ZO [] s

/-- `Unknown__0xFE`, R320: opcode 0xFE. -/
def execUnknownFE (s : State) : Out := runEntry [0xFE] .unknown .ZO [] s

end Sys2Proof.Machine
end

