-- ==== Sys2Proof/Machine/Dispatch.lean ====
section
/-! DEFINITION. One arm per row of the opcode table, each one call of that row's meaning. -/

namespace Sys2Proof.Machine

def exec (i : Instr) (s : State) : Host.Outcome State Fault Refusal :=
  match i with
  | .addEbGb => Sys2Proof.Machine.execAddEbGb s
  | .addEvGv => Sys2Proof.Machine.execAddEvGv s
  | .addGbEb => Sys2Proof.Machine.execAddGbEb s
  | .addGvEv => Sys2Proof.Machine.execAddGvEv s
  | .addALIb => Sys2Proof.Machine.execAddALIb s
  | .addRAXIz => Sys2Proof.Machine.execAddRAXIz s
  | .orEbGb => Sys2Proof.Machine.execOrEbGb s
  | .orEvGv => Sys2Proof.Machine.execOrEvGv s
  | .orGbEb => Sys2Proof.Machine.execOrGbEb s
  | .orGvEv => Sys2Proof.Machine.execOrGvEv s
  | .orALIb => Sys2Proof.Machine.execOrALIb s
  | .orRAXIz => Sys2Proof.Machine.execOrRAXIz s
  | .adcEbGb => Sys2Proof.Machine.execAdcEbGb s
  | .adcEvGv => Sys2Proof.Machine.execAdcEvGv s
  | .adcGbEb => Sys2Proof.Machine.execAdcGbEb s
  | .adcGvEv => Sys2Proof.Machine.execAdcGvEv s
  | .adcALIb => Sys2Proof.Machine.execAdcALIb s
  | .adcRAXIz => Sys2Proof.Machine.execAdcRAXIz s
  | .sbbEbGb => Sys2Proof.Machine.execSbbEbGb s
  | .sbbEvGv => Sys2Proof.Machine.execSbbEvGv s
  | .sbbGbEb => Sys2Proof.Machine.execSbbGbEb s
  | .sbbGvEv => Sys2Proof.Machine.execSbbGvEv s
  | .sbbALIb => Sys2Proof.Machine.execSbbALIb s
  | .sbbRAXIz => Sys2Proof.Machine.execSbbRAXIz s
  | .andEbGb => Sys2Proof.Machine.execAndEbGb s
  | .andEvGv => Sys2Proof.Machine.execAndEvGv s
  | .andGbEb => Sys2Proof.Machine.execAndGbEb s
  | .andGvEv => Sys2Proof.Machine.execAndGvEv s
  | .andALIb => Sys2Proof.Machine.execAndALIb s
  | .andRAXIz => Sys2Proof.Machine.execAndRAXIz s
  | .subEbGb => Sys2Proof.Machine.execSubEbGb s
  | .subEvGv => Sys2Proof.Machine.execSubEvGv s
  | .subGbEb => Sys2Proof.Machine.execSubGbEb s
  | .subGvEv => Sys2Proof.Machine.execSubGvEv s
  | .subALIb => Sys2Proof.Machine.execSubALIb s
  | .subRAXIz => Sys2Proof.Machine.execSubRAXIz s
  | .xorEbGb => Sys2Proof.Machine.execXorEbGb s
  | .xorEvGv => Sys2Proof.Machine.execXorEvGv s
  | .xorGbEb => Sys2Proof.Machine.execXorGbEb s
  | .xorGvEv => Sys2Proof.Machine.execXorGvEv s
  | .xorALIb => Sys2Proof.Machine.execXorALIb s
  | .xorRAXIz => Sys2Proof.Machine.execXorRAXIz s
  | .cmpEbGb => Sys2Proof.Machine.execCmpEbGb s
  | .cmpEvGv => Sys2Proof.Machine.execCmpEvGv s
  | .cmpGbEb => Sys2Proof.Machine.execCmpGbEb s
  | .cmpGvEv => Sys2Proof.Machine.execCmpGvEv s
  | .cmpALIb => Sys2Proof.Machine.execCmpALIb s
  | .cmpRAXIz => Sys2Proof.Machine.execCmpRAXIz s
  | .addEbIb80 => Sys2Proof.Machine.execAddEbIb80 s
  | .orEbIb80 => Sys2Proof.Machine.execOrEbIb80 s
  | .adcEbIb80 => Sys2Proof.Machine.execAdcEbIb80 s
  | .sbbEbIb80 => Sys2Proof.Machine.execSbbEbIb80 s
  | .andEbIb80 => Sys2Proof.Machine.execAndEbIb80 s
  | .subEbIb80 => Sys2Proof.Machine.execSubEbIb80 s
  | .xorEbIb80 => Sys2Proof.Machine.execXorEbIb80 s
  | .cmpEbIb80 => Sys2Proof.Machine.execCmpEbIb80 s
  | .addEvIz => Sys2Proof.Machine.execAddEvIz s
  | .orEvIz => Sys2Proof.Machine.execOrEvIz s
  | .adcEvIz => Sys2Proof.Machine.execAdcEvIz s
  | .sbbEvIz => Sys2Proof.Machine.execSbbEvIz s
  | .andEvIz => Sys2Proof.Machine.execAndEvIz s
  | .subEvIz => Sys2Proof.Machine.execSubEvIz s
  | .xorEvIz => Sys2Proof.Machine.execXorEvIz s
  | .cmpEvIz => Sys2Proof.Machine.execCmpEvIz s
  | .addEbIb82 => Sys2Proof.Machine.execAddEbIb82 s
  | .orEbIb82 => Sys2Proof.Machine.execOrEbIb82 s
  | .adcEbIb82 => Sys2Proof.Machine.execAdcEbIb82 s
  | .sbbEbIb82 => Sys2Proof.Machine.execSbbEbIb82 s
  | .andEbIb82 => Sys2Proof.Machine.execAndEbIb82 s
  | .subEbIb82 => Sys2Proof.Machine.execSubEbIb82 s
  | .xorEbIb82 => Sys2Proof.Machine.execXorEbIb82 s
  | .cmpEbIb82 => Sys2Proof.Machine.execCmpEbIb82 s
  | .addEvIb => Sys2Proof.Machine.execAddEvIb s
  | .orEvIb => Sys2Proof.Machine.execOrEvIb s
  | .adcEvIb => Sys2Proof.Machine.execAdcEvIb s
  | .sbbEvIb => Sys2Proof.Machine.execSbbEvIb s
  | .andEvIb => Sys2Proof.Machine.execAndEvIb s
  | .subEvIb => Sys2Proof.Machine.execSubEvIb s
  | .xorEvIb => Sys2Proof.Machine.execXorEvIb s
  | .cmpEvIb => Sys2Proof.Machine.execCmpEvIb s
  | .incEv => Sys2Proof.Machine.execIncEv s
  | .decEv => Sys2Proof.Machine.execDecEv s
  | .callNearEv => Sys2Proof.Machine.execCallNearEv s
  | .callFarMp => Sys2Proof.Machine.execCallFarMp s
  | .jmpNearEv => Sys2Proof.Machine.execJmpNearEv s
  | .jmpFarMp => Sys2Proof.Machine.execJmpFarMp s
  | .pushEv => Sys2Proof.Machine.execPushEv s
  | .reservedFF7 => Sys2Proof.Machine.execReservedFF7 s
  | .movEvGv => Sys2Proof.Machine.execMovEvGv s
  | .leaGvMv => Sys2Proof.Machine.execLeaGvMv s
  | .pushRv r => Sys2Proof.Machine.execPushRv r s
  | .incRv r => Sys2Proof.Machine.execIncRv r s
  | .decRv r => Sys2Proof.Machine.execDecRv r s
  | .pushES => Sys2Proof.Machine.execPushES s
  | .pushCS => Sys2Proof.Machine.execPushCS s
  | .pushSS => Sys2Proof.Machine.execPushSS s
  | .pushDS => Sys2Proof.Machine.execPushDS s
  | .endBr64 => Sys2Proof.Machine.execEndBr64 s
  | .endBr32 => Sys2Proof.Machine.execEndBr32 s
  | .escapePrefixOtherThanRep => Sys2Proof.Machine.execEscapePrefixOtherThanRep s
  | .escapeNoPrefix b2 => Sys2Proof.Machine.execEscapeNoPrefix b2 s
  | .escapeRepSecondByte b2 => Sys2Proof.Machine.execEscapeRepSecondByte b2 s
  | .escapeRepThirdByte b3 => Sys2Proof.Machine.execEscapeRepThirdByte b3 s
  | .unknown07 => Sys2Proof.Machine.execUnknown07 s
  | .unknown17 => Sys2Proof.Machine.execUnknown17 s
  | .unknown1F => Sys2Proof.Machine.execUnknown1F s
  | .unknown27 => Sys2Proof.Machine.execUnknown27 s
  | .unknown2F => Sys2Proof.Machine.execUnknown2F s
  | .unknown37 => Sys2Proof.Machine.execUnknown37 s
  | .unknown3F => Sys2Proof.Machine.execUnknown3F s
  | .unknown58 => Sys2Proof.Machine.execUnknown58 s
  | .unknown59 => Sys2Proof.Machine.execUnknown59 s
  | .unknown5A => Sys2Proof.Machine.execUnknown5A s
  | .unknown5B => Sys2Proof.Machine.execUnknown5B s
  | .unknown5C => Sys2Proof.Machine.execUnknown5C s
  | .unknown5D => Sys2Proof.Machine.execUnknown5D s
  | .unknown5E => Sys2Proof.Machine.execUnknown5E s
  | .unknown5F => Sys2Proof.Machine.execUnknown5F s
  | .unknown60 => Sys2Proof.Machine.execUnknown60 s
  | .unknown61 => Sys2Proof.Machine.execUnknown61 s
  | .unknown62 => Sys2Proof.Machine.execUnknown62 s
  | .unknown63 => Sys2Proof.Machine.execUnknown63 s
  | .unknown68 => Sys2Proof.Machine.execUnknown68 s
  | .unknown69 => Sys2Proof.Machine.execUnknown69 s
  | .unknown6A => Sys2Proof.Machine.execUnknown6A s
  | .unknown6B => Sys2Proof.Machine.execUnknown6B s
  | .unknown6C => Sys2Proof.Machine.execUnknown6C s
  | .unknown6D => Sys2Proof.Machine.execUnknown6D s
  | .unknown6E => Sys2Proof.Machine.execUnknown6E s
  | .unknown6F => Sys2Proof.Machine.execUnknown6F s
  | .unknown70 => Sys2Proof.Machine.execUnknown70 s
  | .unknown71 => Sys2Proof.Machine.execUnknown71 s
  | .unknown72 => Sys2Proof.Machine.execUnknown72 s
  | .unknown73 => Sys2Proof.Machine.execUnknown73 s
  | .unknown74 => Sys2Proof.Machine.execUnknown74 s
  | .unknown75 => Sys2Proof.Machine.execUnknown75 s
  | .unknown76 => Sys2Proof.Machine.execUnknown76 s
  | .unknown77 => Sys2Proof.Machine.execUnknown77 s
  | .unknown78 => Sys2Proof.Machine.execUnknown78 s
  | .unknown79 => Sys2Proof.Machine.execUnknown79 s
  | .unknown7A => Sys2Proof.Machine.execUnknown7A s
  | .unknown7B => Sys2Proof.Machine.execUnknown7B s
  | .unknown7C => Sys2Proof.Machine.execUnknown7C s
  | .unknown7D => Sys2Proof.Machine.execUnknown7D s
  | .unknown7E => Sys2Proof.Machine.execUnknown7E s
  | .unknown7F => Sys2Proof.Machine.execUnknown7F s
  | .unknown84 => Sys2Proof.Machine.execUnknown84 s
  | .unknown85 => Sys2Proof.Machine.execUnknown85 s
  | .unknown86 => Sys2Proof.Machine.execUnknown86 s
  | .unknown87 => Sys2Proof.Machine.execUnknown87 s
  | .unknown88 => Sys2Proof.Machine.execUnknown88 s
  | .unknown8A => Sys2Proof.Machine.execUnknown8A s
  | .unknown8B => Sys2Proof.Machine.execUnknown8B s
  | .unknown8C => Sys2Proof.Machine.execUnknown8C s
  | .unknown8E => Sys2Proof.Machine.execUnknown8E s
  | .unknown8F => Sys2Proof.Machine.execUnknown8F s
  | .unknown90 => Sys2Proof.Machine.execUnknown90 s
  | .unknown91 => Sys2Proof.Machine.execUnknown91 s
  | .unknown92 => Sys2Proof.Machine.execUnknown92 s
  | .unknown93 => Sys2Proof.Machine.execUnknown93 s
  | .unknown94 => Sys2Proof.Machine.execUnknown94 s
  | .unknown95 => Sys2Proof.Machine.execUnknown95 s
  | .unknown96 => Sys2Proof.Machine.execUnknown96 s
  | .unknown97 => Sys2Proof.Machine.execUnknown97 s
  | .unknown98 => Sys2Proof.Machine.execUnknown98 s
  | .unknown99 => Sys2Proof.Machine.execUnknown99 s
  | .unknown9A => Sys2Proof.Machine.execUnknown9A s
  | .unknown9B => Sys2Proof.Machine.execUnknown9B s
  | .unknown9C => Sys2Proof.Machine.execUnknown9C s
  | .unknown9D => Sys2Proof.Machine.execUnknown9D s
  | .unknown9E => Sys2Proof.Machine.execUnknown9E s
  | .unknown9F => Sys2Proof.Machine.execUnknown9F s
  | .unknownA0 => Sys2Proof.Machine.execUnknownA0 s
  | .unknownA1 => Sys2Proof.Machine.execUnknownA1 s
  | .unknownA2 => Sys2Proof.Machine.execUnknownA2 s
  | .unknownA3 => Sys2Proof.Machine.execUnknownA3 s
  | .unknownA4 => Sys2Proof.Machine.execUnknownA4 s
  | .unknownA5 => Sys2Proof.Machine.execUnknownA5 s
  | .unknownA6 => Sys2Proof.Machine.execUnknownA6 s
  | .unknownA7 => Sys2Proof.Machine.execUnknownA7 s
  | .unknownA8 => Sys2Proof.Machine.execUnknownA8 s
  | .unknownA9 => Sys2Proof.Machine.execUnknownA9 s
  | .unknownAA => Sys2Proof.Machine.execUnknownAA s
  | .unknownAB => Sys2Proof.Machine.execUnknownAB s
  | .unknownAC => Sys2Proof.Machine.execUnknownAC s
  | .unknownAD => Sys2Proof.Machine.execUnknownAD s
  | .unknownAE => Sys2Proof.Machine.execUnknownAE s
  | .unknownAF => Sys2Proof.Machine.execUnknownAF s
  | .unknownB0 => Sys2Proof.Machine.execUnknownB0 s
  | .unknownB1 => Sys2Proof.Machine.execUnknownB1 s
  | .unknownB2 => Sys2Proof.Machine.execUnknownB2 s
  | .unknownB3 => Sys2Proof.Machine.execUnknownB3 s
  | .unknownB4 => Sys2Proof.Machine.execUnknownB4 s
  | .unknownB5 => Sys2Proof.Machine.execUnknownB5 s
  | .unknownB6 => Sys2Proof.Machine.execUnknownB6 s
  | .unknownB7 => Sys2Proof.Machine.execUnknownB7 s
  | .unknownB8 => Sys2Proof.Machine.execUnknownB8 s
  | .unknownB9 => Sys2Proof.Machine.execUnknownB9 s
  | .unknownBA => Sys2Proof.Machine.execUnknownBA s
  | .unknownBB => Sys2Proof.Machine.execUnknownBB s
  | .unknownBC => Sys2Proof.Machine.execUnknownBC s
  | .unknownBD => Sys2Proof.Machine.execUnknownBD s
  | .unknownBE => Sys2Proof.Machine.execUnknownBE s
  | .unknownBF => Sys2Proof.Machine.execUnknownBF s
  | .unknownC0 => Sys2Proof.Machine.execUnknownC0 s
  | .unknownC1 => Sys2Proof.Machine.execUnknownC1 s
  | .unknownC2 => Sys2Proof.Machine.execUnknownC2 s
  | .unknownC3 => Sys2Proof.Machine.execUnknownC3 s
  | .unknownC4 => Sys2Proof.Machine.execUnknownC4 s
  | .unknownC5 => Sys2Proof.Machine.execUnknownC5 s
  | .unknownC6 => Sys2Proof.Machine.execUnknownC6 s
  | .unknownC7 => Sys2Proof.Machine.execUnknownC7 s
  | .unknownC8 => Sys2Proof.Machine.execUnknownC8 s
  | .unknownC9 => Sys2Proof.Machine.execUnknownC9 s
  | .unknownCA => Sys2Proof.Machine.execUnknownCA s
  | .unknownCB => Sys2Proof.Machine.execUnknownCB s
  | .unknownCC => Sys2Proof.Machine.execUnknownCC s
  | .unknownCD => Sys2Proof.Machine.execUnknownCD s
  | .unknownCE => Sys2Proof.Machine.execUnknownCE s
  | .unknownCF => Sys2Proof.Machine.execUnknownCF s
  | .unknownD0 => Sys2Proof.Machine.execUnknownD0 s
  | .unknownD1 => Sys2Proof.Machine.execUnknownD1 s
  | .unknownD2 => Sys2Proof.Machine.execUnknownD2 s
  | .unknownD3 => Sys2Proof.Machine.execUnknownD3 s
  | .unknownD4 => Sys2Proof.Machine.execUnknownD4 s
  | .unknownD5 => Sys2Proof.Machine.execUnknownD5 s
  | .unknownD6 => Sys2Proof.Machine.execUnknownD6 s
  | .unknownD7 => Sys2Proof.Machine.execUnknownD7 s
  | .unknownD8 => Sys2Proof.Machine.execUnknownD8 s
  | .unknownD9 => Sys2Proof.Machine.execUnknownD9 s
  | .unknownDA => Sys2Proof.Machine.execUnknownDA s
  | .unknownDB => Sys2Proof.Machine.execUnknownDB s
  | .unknownDC => Sys2Proof.Machine.execUnknownDC s
  | .unknownDD => Sys2Proof.Machine.execUnknownDD s
  | .unknownDE => Sys2Proof.Machine.execUnknownDE s
  | .unknownDF => Sys2Proof.Machine.execUnknownDF s
  | .unknownE0 => Sys2Proof.Machine.execUnknownE0 s
  | .unknownE1 => Sys2Proof.Machine.execUnknownE1 s
  | .unknownE2 => Sys2Proof.Machine.execUnknownE2 s
  | .unknownE3 => Sys2Proof.Machine.execUnknownE3 s
  | .unknownE4 => Sys2Proof.Machine.execUnknownE4 s
  | .unknownE5 => Sys2Proof.Machine.execUnknownE5 s
  | .unknownE6 => Sys2Proof.Machine.execUnknownE6 s
  | .unknownE7 => Sys2Proof.Machine.execUnknownE7 s
  | .unknownE8 => Sys2Proof.Machine.execUnknownE8 s
  | .unknownE9 => Sys2Proof.Machine.execUnknownE9 s
  | .unknownEA => Sys2Proof.Machine.execUnknownEA s
  | .unknownEB => Sys2Proof.Machine.execUnknownEB s
  | .unknownEC => Sys2Proof.Machine.execUnknownEC s
  | .unknownED => Sys2Proof.Machine.execUnknownED s
  | .unknownEE => Sys2Proof.Machine.execUnknownEE s
  | .unknownEF => Sys2Proof.Machine.execUnknownEF s
  | .unknownF1 => Sys2Proof.Machine.execUnknownF1 s
  | .unknownF4 => Sys2Proof.Machine.execUnknownF4 s
  | .unknownF5 => Sys2Proof.Machine.execUnknownF5 s
  | .unknownF6 => Sys2Proof.Machine.execUnknownF6 s
  | .unknownF7 => Sys2Proof.Machine.execUnknownF7 s
  | .unknownF8 => Sys2Proof.Machine.execUnknownF8 s
  | .unknownF9 => Sys2Proof.Machine.execUnknownF9 s
  | .unknownFA => Sys2Proof.Machine.execUnknownFA s
  | .unknownFB => Sys2Proof.Machine.execUnknownFB s
  | .unknownFC => Sys2Proof.Machine.execUnknownFC s
  | .unknownFD => Sys2Proof.Machine.execUnknownFD s
  | .unknownFE => Sys2Proof.Machine.execUnknownFE s
  | .prefixLock => Sys2Proof.Machine.execPrefixLock s
  | .prefixRepNE => Sys2Proof.Machine.execPrefixRepNE s
  | .prefixRep => Sys2Proof.Machine.execPrefixRep s
  | .prefixSegES => Sys2Proof.Machine.execPrefixSegES s
  | .prefixSegCS => Sys2Proof.Machine.execPrefixSegCS s
  | .prefixSegSS => Sys2Proof.Machine.execPrefixSegSS s
  | .prefixSegDS => Sys2Proof.Machine.execPrefixSegDS s
  | .prefixSegFS => Sys2Proof.Machine.execPrefixSegFS s
  | .prefixSegGS => Sys2Proof.Machine.execPrefixSegGS s
  | .prefixOperandSizeOverride => Sys2Proof.Machine.execPrefixOperandSizeOverride s
  | .prefixAddressSizeOverride => Sys2Proof.Machine.execPrefixAddressSizeOverride s
  | .rex w r x b => Sys2Proof.Machine.execRex w r x b s

end Sys2Proof.Machine
end

