-- ==== Sys2Proof/Machine/Step.lean ====
section
/-! DEFINITION. One step: one lookup in the opcode table with everything the row it finds sets off (log 1), and where a word of the table is placed for the step to run it. -/

namespace Sys2Proof.Machine

/-- The step inside a transaction: the lookup at the cursor and the row it finds (40_decode_pipeline.md R131, R136), or the
error of a lookup that lacks a byte (60_exceptions.md R401). -/
def lookupAndRun (s : State) : Out :=
  match decode s.ctx s.fetch with
  | .ok i => exec i s
  | .error r => runReject r s

/-- The step inside a transaction, from whatever stage it stands in (40_decode_pipeline.md R130). -/
def stepInside (s : State) : Out :=
  match resume s with
  | some out => out
  | none => lookupAndRun s

/-- One step of the machine: between two transactions the next one is begun first (70_reset_and_hazards.md R452, R453). -/
def step (s : State) : Host.Outcome State Fault Refusal :=
  match takeCall s with
  | .next s1 => stepInside s1
  | .fault f => .fault f
  | .refused r => .refused r

/-- The state whose next step runs the row of a word of the opcode table (log 9, log 10). -/
def State.withFetchWord (s : State) (nbits w : Nat) : State := s.placeWord nbits w

end Sys2Proof.Machine
end

