-- ==== Sys2Proof/Machine/Transaction.lean ====
section
/-! DEFINITION. `decode_one` (40_decode_pipeline.md R131) as one pure function of the buffer, the start and the mode, written from
the pseudocode with the one-byte map by opcode arithmetic: the clear form the stepping machine is stated equal to. No step calls
it. -/

namespace Sys2Proof.Machine.Txn

/-- What one part of `decode_one` gives: a value and the position after it, or an error and the position after that. -/
inductive Got (α : Type) where
  | ok (a : α) (pos : Nat)
  | raise (e : DecodeError) (pos : Nat)
deriving DecidableEq, Repr

/-- Sequencing: the first error ends the transaction (R161). -/
def Got.bind {α β : Type} : Got α → (α → Nat → Got β) → Got β
  | .ok a p, k => k a p
  | .raise e p, _ => .raise e p

/-- `Read8()` at p. -/
def read8 (buf : Buffer) (p : Nat) : Got Byte :=
  match buf.byte? p with
  | some b => .ok b (p + 1)
  | none => .raise (.notEnoughBytes 1) p

/-- `Peek8()` at p: the position does not move (20_memory.md R67). -/
def peek8 (buf : Buffer) (p : Nat) : Got Byte :=
  match buf.byte? p with
  | some b => .ok b p
  | none => .raise (.notEnoughBytes 1) p

/-- `ReadN(w / 8)` at p, as a value of width w. -/
def readSized (buf : Buffer) (w : Width) (p : Nat) : Got Sized :=
  match buf.value? p w.bytes with
  | some v => .ok (sizedOfNat w v) (p + w.bytes)
  | none => .raise (.notEnoughBytes w.bytes) p

/-- The prefix scan (R132) with `room` more prefixes allowed: the prefix list and the first byte that is none. -/
def scan (buf : Buffer) : Nat → List Prefix → Nat → Got (List Prefix × Byte)
  | 0, ps, p =>
    (read8 buf p).bind fun b p =>
    match classifyPrefix b with
    | none => .ok (ps, b) p
    | some q => .raise (.invalidPrefix (.fourth q)) p
  | room + 1, ps, p =>
    (read8 buf p).bind fun b p =>
    match classifyPrefix b with
    | none => .ok (ps, b) p
    | some q => scan buf room (ps ++ [q]) p

/-- The REX check (R134): the REX record, if any, and the committed byte. -/
def rexCheck (buf : Buffer) (mode : CpuMode) (b : Byte) (p : Nat) : Got (Option Rex × Byte) :=
  match mode, classifyRex b with
  | .m64, some r =>
    (read8 buf p).bind fun b p =>
    if (classifyPrefix b).isSome ∨ (classifyRex b).isSome then .raise (.invalidPrefix (.afterRex b)) p
    else .ok (some r, b) p
  | _, _ => .ok (none, b) p

/-- The operation of an ALU or group 1 row by its 3-bit number (42_alu.md, 30_encoding.md R107). -/
def aluOp (n : BitVec 3) : OpcodeIdentity := pick [.add, .or, .adc, .sbb, .and, .sub, .xor, .cmp] n rfl

/-- The segment register of a Push of a segment register, by bits 4:3 of the opcode byte (45_mov_lea_push_incdec.md R306 to
R309). -/
def pushedSeg (n : BitVec 2) : SegReg := pick [.es, .cs, .ss, .ds] n rfl

/-- The encoding and templates of an ALU row by bits 2:0 of the opcode byte (42_alu.md). -/
def aluForm (n : BitVec 3) : Encoding × List Template :=
  pick
    [(.MR, [.E .B, .G .B]), (.MR, [.E .V, .G .V]), (.RM, [.G .B, .E .B]), (.RM, [.G .V, .E .V]),
     (.I, [.Fixed .al, .I .B]), (.I, [.Family .accumulator .V, .I .Z]), (.ZO, []), (.ZO, [])] n rfl

/-- The entry of a committed byte that is neither the escape nor an extension opcode (30_encoding.md R109, R110). -/
def plainEntry (b : Byte) : Entry :=
  if b = 0x89 then ⟨.mov, .MR, [.E .V, .G .V]⟩
  else if b = 0x8D then ⟨.lea, .RM, [.G .V, .M .V]⟩
  else if bits b 3 5 = 0b01010#5 then ⟨.push, .O, [.O .V]⟩
  else if bits b 3 5 = 0b01000#5 then ⟨.inc, .O, [.O .V]⟩
  else if bits b 3 5 = 0b01001#5 then ⟨.dec, .O, [.O .V]⟩
  else if b < 0x40 ∧ bits b 0 3 < 6 then ⟨aluOp (bits b 3 3), (aluForm (bits b 0 3)).1, (aluForm (bits b 0 3)).2⟩
  else if b < 0x20 ∧ bits b 0 3 = 6 then ⟨.push, .ZO, [.Seg (pushedSeg (bits b 3 2))]⟩
  else ⟨.unknown, .ZO, []⟩

/-- `Escape(P)` (46_escape.md R310): the opcode bytes and the entry. -/
def escape (buf : Buffer) (ps : List Prefix) (p : Nat) : Got (List Byte × Entry) :=
  if ps = [] then
    (read8 buf p).bind fun b2 p => .raise (.invalidOpcode 0x0F b2) p
  else if ∃ q ∈ ps, q ≠ .rep then .raise (.invalidPrefix (.escape ps)) p
  else
    (read8 buf p).bind fun b2 p =>
    if b2 ≠ 0x1E#8 then .raise (.invalidOpcode 0x0F b2) p
    else
      (read8 buf p).bind fun b3 p =>
      if b3 = 0xFA#8 then .ok ([0x0F, 0x1E, 0xFA], ⟨.endBr64, .ZO, []⟩) p
      else if b3 = 0xFB#8 then .ok ([0x0F, 0x1E, 0xFB], ⟨.endBr32, .ZO, []⟩) p
      else .raise (.invalid3ByteOpcode 0x0F 0x1E b3) p

/-- `convert_with_ext(b, ext)` (R139). -/
def convertWithExt (b : Byte) (ext : BitVec 3) (p : Nat) : Got Entry :=
  if b = 0x80 ∨ b = 0x82 then .ok ⟨aluOp ext, .MI, [.E .B, .I .B]⟩ p
  else if b = 0x81 then .ok ⟨aluOp ext, .MI, [.E .V, .I .Z]⟩ p
  else if b = 0x83 then .ok ⟨aluOp ext, .MI, [.E .V, .I .B]⟩ p
  else if ext = 7 then .raise (.invalidExtension b ext) p
  else if ext = 3 ∨ ext = 5 then .ok ⟨if ext = 3 then .callFar else .jmpFar, .M, [.M .P]⟩ p
  else .ok ⟨pick [.inc, .dec, .callNear, .unknown, .jmpNear, .unknown, .push, .unknown] ext rfl, .M, [.E .V]⟩ p

/-- The opcode lookup of a committed byte (R136 to R139): the opcode bytes and the entry. -/
def opcode (buf : Buffer) (ps : List Prefix) (b : Byte) (p : Nat) : Got (List Byte × Entry) :=
  if b = 0x0F then escape buf ps p
  else if b = 0x80 ∨ b = 0x81 ∨ b = 0x82 ∨ b = 0x83 ∨ b = 0xFF then
    (peek8 buf p).bind fun m p =>
    (convertWithExt b (bits m 3 3) p).bind fun e p => .ok ([b], e) p
  else .ok ([b], plainEntry b) p

/-- The records of the ModR/M stage. -/
structure Addressing where
  modrm : Option ModRM
  sib : Option Sib
  disp : Option Displacement
deriving DecidableEq, Repr

/-- The SIB stage (R141). -/
def readSib (buf : Buffer) (mode : CpuMode) (rex : Option Rex) (m : ModRM) (p : Nat) : Got (Option Sib) :=
  if m.form = .sib then (read8 buf p).bind fun x p => .ok (some (decodeSib x (modOf m.raw) mode rex)) p
  else .ok none p

/-- The displacement stage (R142). -/
def readDisp (buf : Buffer) (m : ModRM) (sib : Option Sib) (p : Nat) : Got (Option Displacement) :=
  match dispWidth m sib with
  | some w => (readSized buf w p).bind fun d p => .ok (some d) p
  | none => .ok none p

/-- The ModR/M, SIB and displacement stages (R140 to R143). -/
def addressing (buf : Buffer) (mode : CpuMode) (rex : Option Rex) (enc : Encoding) (p : Nat) : Got Addressing :=
  if enc = .M ∨ enc = .MI ∨ enc = .MR ∨ enc = .RM then
    (read8 buf p).bind fun b p =>
    let m := decodeModRM b mode rex
    (readSib buf mode rex m p).bind fun sib p =>
    (readDisp buf m sib p).bind fun disp p =>
    .ok ⟨some m, sib, disp⟩ p
  else .ok ⟨none, none, none⟩ p

/-- What the templates are resolved from: the fields of one transaction once the sizes are computed (R145, R146). -/
structure Ready where
  mode : CpuMode
  rex : Option Rex
  opbyte : Byte
  addr : Addressing
  eos : OperandSize
  eas : AddrSize
deriving DecidableEq, Repr

/-- `E(c)` and `M(c)` (R150, R151). -/
def resolveRM (r : Ready) (m : ModRM) (c : SizeClass) (p : Nat) : Got ResolvedOperand :=
  match directRegister m, memDescriptor r.mode r.eas m r.addr.sib r.addr.disp with
  | some rm, _ => .ok (.reg (namedReg rm (classWidth c r.eos) r.rex.isSome) (classWidth c r.eos)) p
  | none, some d =>
    if legalAddrSize r.mode r.eas then .ok (.mem d (classWidth c r.eos)) p
    else .raise (.invalidAddressSize r.mode r.eas) p
  | none, none => .raise (.invalidAddressSize r.mode r.eas) p

/-- `Resolve(t)` (R149 to R159), after the operands `ops`. -/
def resolve (buf : Buffer) (r : Ready) (ops : List ResolvedOperand) (t : Template) (p : Nat) : Got ResolvedOperand :=
  match t, r.addr.modrm with
  | .E c, some m | .M c, some m => resolveRM r m c p
  | .G c, some m => .ok (.reg (namedReg m.reg (classWidth c r.eos) r.rex.isSome) (classWidth c r.eos)) p
  | .E _, none | .M _, none | .G _, none => .raise .invalidModRM p
  | .I c, _ =>
    (readSized buf (immWidth c r.eos) p).bind fun v p => .ok (.imm (immediateAfter ops v)) p
  | .O c, _ =>
    .ok (.reg (namedReg (opcodeReg r.mode r.rex r.opbyte) (classWidth c r.eos) r.rex.isSome) (classWidth c r.eos)) p
  | .Fixed q, _ => .ok (.reg q (regWidth q)) p
  | .Family f c, _ => .ok (.reg (familyAt f (classWidth c r.eos)) (classWidth c r.eos)) p
  | .Seg q, _ => .ok (.seg q) p

/-- `for t in T, left to right: ops <- ops ++ [Resolve(t)]` (R149). -/
def operands (buf : Buffer) (r : Ready) : List Template → List ResolvedOperand → Nat → Got (List ResolvedOperand)
  | [], ops, p => .ok ops p
  | t :: ts, ops, p => (resolve buf r ops t p).bind fun o p => operands buf r ts (ops ++ [o]) p

/-- From an entry to the Instruction (R131 from HaveOpcode on): `b` is the committed byte. -/
def fromEntry (buf : Buffer) (start : Nat) (mode : CpuMode) (ps : List Prefix) (rex : Option Rex) (b : Byte)
    (opbytes : List Byte) (e : Entry) (p : Nat) : Got Instruction :=
  (addressing buf mode rex e.encoding p).bind fun a p =>
  let eos := effOpSize mode (ps.contains .operandSizeOverride) (rexBit Rex.w rex)
  let eas := effAddrSize mode (ps.contains .addressSizeOverride)
  (operands buf ⟨mode, rex, b, a, eos, eas⟩ e.templates [] p).bind fun ops p =>
  .ok ⟨mode, ps, rex, e.identity, e.encoding, opbytes, a.modrm, a.sib, a.disp, ops, eos, p - start⟩ p

/-- From a committed byte to the Instruction. -/
def committed (buf : Buffer) (start : Nat) (mode : CpuMode) (ps : List Prefix) (rex : Option Rex) (b : Byte) (p : Nat) :
    Got Instruction :=
  (opcode buf ps b p).bind fun oe p => fromEntry buf start mode ps rex b oe.1 oe.2 p

/-- `decode_one(buf, start, mode)` (R131). -/
def decodeOne (buf : Buffer) (start : Nat) (mode : CpuMode) : Result :=
  match
    (scan buf Config.prefixCap [] start).bind fun pb p =>
    (rexCheck buf mode pb.2 p).bind fun rb p =>
    committed buf start mode pb.1 rb.1 rb.2 p
  with
  | .ok ins p => .instruction ins p
  | .raise e p => .error e p

end Sys2Proof.Machine.Txn
end

