-- ==== Sys2Proof/Safety.lean ====
section
/-! DEFINITION. The terms claims are stated in: how a transaction ends, the bytes a returned Instruction stands for, and the invariant of the machine. -/

namespace Sys2Proof.Machine

/-- The transaction has ended at position p with an Instruction: nothing else has changed but the transient fields, which are
back at their initial values (40_decode_pipeline.md R160, 10_state.md R48, R50; log 20). -/
def State.returned (s : State) (ins : Instruction) (p : Nat) : State :=
  { s with pos := p, tx := Transient.init p, results := .instruction ins p :: s.results }

/-- The transaction has ended at position p with an error: nothing else has changed but the transient fields, which are back at
their initial values (60_exceptions.md R409 to R411; log 20). -/
def State.failed (s : State) (e : DecodeError) (p : Nat) : State :=
  { s with pos := p, tx := Transient.init p, results := .error e p :: s.results }

/-- The state with a result as `Txn` gives it. -/
def State.ended (s : State) : Txn.Got Instruction → State
  | .ok ins p => s.returned ins p
  | .raise e p => s.failed e p

/-- The position a result carries. -/
def Result.pos : Result → Nat
  | .instruction _ p => p
  | .error _ p => p

/-- The effective operand size of the transaction under way (40_decode_pipeline.md R145). -/
def State.eos (s : State) : OperandSize := eosOf s.mode s.tx.prefixes s.tx.rex

/-- Its effective address size (40_decode_pipeline.md R146). -/
def State.eas (s : State) : AddrSize := easOf s.mode s.tx.prefixes

/-- The operand a ModR/M record names through its r/m field at a width: a register when mod = 11 (R150), else memory at a legal
address size (R151), else none. -/
def State.rmOperand (s : State) (m : ModRM) (sib : Option Sib) (disp : Option Displacement) (w : Width) :
    Option ResolvedOperand :=
  match directRegister m with
  | some rm => some (.reg (namedReg rm w s.tx.rex.isSome) w)
  | none => if legalAddrSize s.mode s.eas then (memDescriptor s.mode s.eas m sib disp).map (ResolvedOperand.mem · w) else none

/-- The register a ModR/M record names through its reg field at a width (R152). -/
def State.regFieldOperand (s : State) (m : ModRM) (w : Width) : ResolvedOperand :=
  .reg (namedReg m.reg w s.tx.rex.isSome) w

/-- The Instruction of the transaction under way, from what its opcode row gives and the bytes after it (R45, R160). -/
def State.built (s : State) (opbytes : List Byte) (identity : OpcodeIdentity) (encoding : Encoding) (a : Txn.Addressing)
    (ops : List ResolvedOperand) (p : Nat) : Instruction where
  mode := s.mode
  prefixes := s.tx.prefixes
  rex := s.tx.rex
  opcode := identity
  encoding := encoding
  opbytes := opbytes
  modrm := a.modrm
  sib := a.sib
  disp := a.disp
  operands := ops
  opsize := s.eos
  length := p - s.tx.start

/-- No ModR/M, SIB or displacement (R143). -/
def noAddressing : Txn.Addressing := ⟨none, none, none⟩

/-! ## The bytes of an Instruction -/

/-- Whether the row of an Instruction has a class Z immediate: rAX, Iz of 42_alu.md and Ev, Iz of 43_group1.md. -/
def Instruction.hasIz (ins : Instruction) : Bool :=
  ins.opbytes == [0x81#8] || (ins.encoding == .I && ins.opbytes.any fun b => bits b 0 3 == 5#3)

/-- The width its immediate was read at (40_decode_pipeline.md R155). -/
def Instruction.immReadWidth (ins : Instruction) : Width := immWidth (if ins.hasIz then .Z else .B) ins.opsize

/-- The bytes an operand was read from: only an immediate has any; a widened one stands for its low bytes. -/
def operandBytes (w : Width) : ResolvedOperand → List Byte
  | .imm i => bytesOfNat w.bytes i.value.toNat
  | .reg _ _ | .seg _ | .mem _ _ => []

/-- The bytes an Instruction stands for, in the order of 30_encoding.md R80. -/
def Instruction.bytes (ins : Instruction) : List Byte :=
  ins.prefixes.map Prefix.byte ++ ins.rex.toList.map Rex.raw ++ ins.opbytes ++ ins.modrm.toList.map ModRM.raw
    ++ ins.sib.toList.map Sib.raw ++ ins.disp.toList.flatMap (fun d => bytesOfNat d.width.bytes d.toNat)
    ++ ins.operands.flatMap (operandBytes ins.immReadWidth)

/-! ## The invariant -/

/-- What every returned Instruction satisfies: the length identity (10_state.md R47), the maximum length (30_encoding.md R115), the
bounds of 00_scope.md R6, REX only in 64-bit mode (R34), a ModR/M record exactly with the encodings that read one
(30_encoding.md R99), opsize = eos (R46), and only signed immediates (40_decode_pipeline.md R156). -/
structure Instruction.Wf (ins : Instruction) : Prop where
  length_eq : ins.length = ins.bytes.length
  length_le : ins.length ≤ Config.maxLength
  prefixes_le : ins.prefixes.length ≤ Config.prefixCap
  operands_le : ins.operands.length ≤ Config.maxOperands
  rex_mode : ins.rex.isSome → ins.mode = .m64
  modrm_iff : ins.modrm.isSome = ins.encoding.hasModRM
  opsize_eq : ins.opsize = eosOf ins.mode ins.prefixes ins.rex
  signed : ∀ i, ResolvedOperand.imm i ∈ ins.operands → i.signed = true

/-- What every result satisfies; InvalidModRM is no result (60_exceptions.md R408). -/
def Result.Wf : Result → Prop
  | .instruction ins p => ins.Wf ∧ ins.length ≤ p
  | .error e _ => e ≠ .invalidModRM

/-- The transient state after a prefix scan and a REX check: all that a transaction holds between two steps. -/
def Transient.scanned (start : Nat) (ps : List Prefix) (rex : Option Rex) : Transient :=
  { Transient.init start with
    prefixes := ps, rex := rex, stage := if rex.isSome then .haveRex else .awaitingOpcode }

/-- The invariant every step keeps. -/
structure Inv (s : State) : Prop where
  /-- The buffer's memory is canonical (20_memory.md R60). -/
  buf_wf : s.buf.wf = true
  /-- The pending calls' buffers too. -/
  calls_wf : ∀ c ∈ s.calls, ∀ b, c.buf = some b → b.wf = true
  /-- The cursor never stands beyond the buffer (10_state.md R39, 20_memory.md R65). -/
  pos_le : s.pos ≤ s.buf.len
  /-- Only the fields valid in AwaitingOpcode and HaveRex are held (10_state.md R42). -/
  tx_scanned : s.tx = Transient.scanned s.tx.start s.tx.prefixes s.tx.rex
  /-- At most PREFIX_CAP prefixes (10_state.md R33). -/
  prefixes_le : s.tx.prefixes.length ≤ Config.prefixCap
  /-- REX only in 64-bit mode (30_encoding.md R84). -/
  rex_mode : s.tx.rex.isSome → s.mode = .m64
  /-- The cursor stands just after the prefixes and the REX byte (10_state.md R39). -/
  pos_eq : s.pos = s.tx.start + s.tx.prefixes.length + s.tx.rex.toList.length
  /-- Those are the bytes of the buffer from the start on. -/
  bytes_eq : s.buf.mem.bytesAt s.tx.start (s.pos - s.tx.start)
    = s.tx.prefixes.map Prefix.byte ++ s.tx.rex.toList.map Rex.raw
  /-- Every result handed out is well formed. -/
  results_wf : ∀ r ∈ s.results, r.Wf

end Sys2Proof.Machine
end

