-- ==== Sys2Proof/Certificates/Slice0/Obligations.lean ====
section
/-! DEFINITION. The statements for the provers. Each docstring names the rules of spec/ it formalises, or says what is the model's own. -/

namespace Sys2Proof.Claims

open Sys2Proof.Machine

/-- The Eb, Gb rows: row, opcode byte, identity (42_alu.md). -/
def rowsEbGb : List (Instr × Byte × OpcodeIdentity) :=
  [(.addEbGb, 0x00, .add), (.orEbGb, 0x08, .or), (.adcEbGb, 0x10, .adc),
   (.sbbEbGb, 0x18, .sbb), (.andEbGb, 0x20, .and), (.subEbGb, 0x28, .sub),
   (.xorEbGb, 0x30, .xor), (.cmpEbGb, 0x38, .cmp)]

/-- The Ev, Gv rows (42_alu.md, 45_mov_lea_push_incdec.md R300). -/
def rowsEvGv : List (Instr × Byte × OpcodeIdentity) :=
  [(.addEvGv, 0x01, .add), (.orEvGv, 0x09, .or), (.adcEvGv, 0x11, .adc),
   (.sbbEvGv, 0x19, .sbb), (.andEvGv, 0x21, .and), (.subEvGv, 0x29, .sub),
   (.xorEvGv, 0x31, .xor), (.cmpEvGv, 0x39, .cmp), (.movEvGv, 0x89, .mov)]

/-- The Gb, Eb rows (42_alu.md). -/
def rowsGbEb : List (Instr × Byte × OpcodeIdentity) :=
  [(.addGbEb, 0x02, .add), (.orGbEb, 0x0A, .or), (.adcGbEb, 0x12, .adc),
   (.sbbGbEb, 0x1A, .sbb), (.andGbEb, 0x22, .and), (.subGbEb, 0x2A, .sub),
   (.xorGbEb, 0x32, .xor), (.cmpGbEb, 0x3A, .cmp)]

/-- The Gv, Ev rows (42_alu.md) and Lea Gv, Mv (45_mov_lea_push_incdec.md R301). -/
def rowsGvEv : List (Instr × Byte × OpcodeIdentity) :=
  [(.addGvEv, 0x03, .add), (.orGvEv, 0x0B, .or), (.adcGvEv, 0x13, .adc),
   (.sbbGvEv, 0x1B, .sbb), (.andGvEv, 0x23, .and), (.subGvEv, 0x2B, .sub),
   (.xorGvEv, 0x33, .xor), (.cmpGvEv, 0x3B, .cmp), (.leaGvMv, 0x8D, .lea)]

/-- The AL, Ib rows (42_alu.md). -/
def rowsALIb : List (Instr × Byte × OpcodeIdentity) :=
  [(.addALIb, 0x04, .add), (.orALIb, 0x0C, .or), (.adcALIb, 0x14, .adc),
   (.sbbALIb, 0x1C, .sbb), (.andALIb, 0x24, .and), (.subALIb, 0x2C, .sub),
   (.xorALIb, 0x34, .xor), (.cmpALIb, 0x3C, .cmp)]

/-- The rAX, Iz rows (42_alu.md). -/
def rowsRAXIz : List (Instr × Byte × OpcodeIdentity) :=
  [(.addRAXIz, 0x05, .add), (.orRAXIz, 0x0D, .or), (.adcRAXIz, 0x15, .adc),
   (.sbbRAXIz, 0x1D, .sbb), (.andRAXIz, 0x25, .and), (.subRAXIz, 0x2D, .sub),
   (.xorRAXIz, 0x35, .xor), (.cmpRAXIz, 0x3D, .cmp)]

/-- The Eb, Ib rows of opcodes 0x80 and 0x82 (43_group1.md). -/
def rowsEbIb : List (Instr × Byte × OpcodeIdentity) :=
  [(.addEbIb80, 0x80, .add), (.orEbIb80, 0x80, .or), (.adcEbIb80, 0x80, .adc),
   (.sbbEbIb80, 0x80, .sbb), (.andEbIb80, 0x80, .and), (.subEbIb80, 0x80, .sub),
   (.xorEbIb80, 0x80, .xor), (.cmpEbIb80, 0x80, .cmp), (.addEbIb82, 0x82, .add),
   (.orEbIb82, 0x82, .or), (.adcEbIb82, 0x82, .adc), (.sbbEbIb82, 0x82, .sbb),
   (.andEbIb82, 0x82, .and), (.subEbIb82, 0x82, .sub), (.xorEbIb82, 0x82, .xor),
   (.cmpEbIb82, 0x82, .cmp)]

/-- The Ev, Iz rows of opcode 0x81 (43_group1.md). -/
def rowsEvIz : List (Instr × Byte × OpcodeIdentity) :=
  [(.addEvIz, 0x81, .add), (.orEvIz, 0x81, .or), (.adcEvIz, 0x81, .adc),
   (.sbbEvIz, 0x81, .sbb), (.andEvIz, 0x81, .and), (.subEvIz, 0x81, .sub),
   (.xorEvIz, 0x81, .xor), (.cmpEvIz, 0x81, .cmp)]

/-- The Ev, Ib rows of opcode 0x83 (43_group1.md). -/
def rowsEvIb : List (Instr × Byte × OpcodeIdentity) :=
  [(.addEvIb, 0x83, .add), (.orEvIb, 0x83, .or), (.adcEvIb, 0x83, .adc),
   (.sbbEvIb, 0x83, .sbb), (.andEvIb, 0x83, .and), (.subEvIb, 0x83, .sub),
   (.xorEvIb, 0x83, .xor), (.cmpEvIb, 0x83, .cmp)]

/-- The group 5 rows with an entry (44_group5.md). -/
def rowsGroup5 : List (Instr × Byte × OpcodeIdentity) :=
  [(.incEv, 0xFF, .inc), (.decEv, 0xFF, .dec), (.callNearEv, 0xFF, .callNear),
   (.callFarMp, 0xFF, .callFar), (.jmpNearEv, 0xFF, .jmpNear), (.jmpFarMp, 0xFF, .jmpFar),
   (.pushEv, 0xFF, .push)]

/-- Every row that reads a ModR/M byte, with its opcode byte. -/
def rowsModRM : List (Instr × Byte × OpcodeIdentity) :=
  rowsEbGb ++ rowsEvGv ++ rowsGbEb ++ rowsGvEv ++ rowsEbIb ++ rowsEvIz ++ rowsEvIb ++ rowsGroup5

/-- The Unknown rows, part 1 (47_unknown.md R320). -/
def rowsUnknown1 : List (Instr × Byte) :=
  [(.unknown07, 0x07), (.unknown17, 0x17), (.unknown1F, 0x1F), (.unknown27, 0x27), (.unknown2F, 0x2F), (.unknown37, 0x37),
   (.unknown3F, 0x3F), (.unknown58, 0x58), (.unknown59, 0x59), (.unknown5A, 0x5A), (.unknown5B, 0x5B), (.unknown5C, 0x5C),
   (.unknown5D, 0x5D), (.unknown5E, 0x5E), (.unknown5F, 0x5F), (.unknown60, 0x60), (.unknown61, 0x61), (.unknown62, 0x62),
   (.unknown63, 0x63), (.unknown68, 0x68), (.unknown69, 0x69), (.unknown6A, 0x6A), (.unknown6B, 0x6B), (.unknown6C, 0x6C),
   (.unknown6D, 0x6D), (.unknown6E, 0x6E), (.unknown6F, 0x6F), (.unknown70, 0x70), (.unknown71, 0x71), (.unknown72, 0x72),
   (.unknown73, 0x73), (.unknown74, 0x74), (.unknown75, 0x75), (.unknown76, 0x76), (.unknown77, 0x77), (.unknown78, 0x78),
   (.unknown79, 0x79), (.unknown7A, 0x7A), (.unknown7B, 0x7B), (.unknown7C, 0x7C)]

/-- The Unknown rows, part 2 (47_unknown.md R320). -/
def rowsUnknown2 : List (Instr × Byte) :=
  [(.unknown7D, 0x7D), (.unknown7E, 0x7E), (.unknown7F, 0x7F), (.unknown84, 0x84), (.unknown85, 0x85), (.unknown86, 0x86),
   (.unknown87, 0x87), (.unknown88, 0x88), (.unknown8A, 0x8A), (.unknown8B, 0x8B), (.unknown8C, 0x8C), (.unknown8E, 0x8E),
   (.unknown8F, 0x8F), (.unknown90, 0x90), (.unknown91, 0x91), (.unknown92, 0x92), (.unknown93, 0x93), (.unknown94, 0x94),
   (.unknown95, 0x95), (.unknown96, 0x96), (.unknown97, 0x97), (.unknown98, 0x98), (.unknown99, 0x99), (.unknown9A, 0x9A),
   (.unknown9B, 0x9B), (.unknown9C, 0x9C), (.unknown9D, 0x9D), (.unknown9E, 0x9E), (.unknown9F, 0x9F), (.unknownA0, 0xA0),
   (.unknownA1, 0xA1), (.unknownA2, 0xA2), (.unknownA3, 0xA3), (.unknownA4, 0xA4), (.unknownA5, 0xA5), (.unknownA6, 0xA6),
   (.unknownA7, 0xA7), (.unknownA8, 0xA8), (.unknownA9, 0xA9), (.unknownAA, 0xAA)]

/-- The Unknown rows, part 3 (47_unknown.md R320). -/
def rowsUnknown3 : List (Instr × Byte) :=
  [(.unknownAB, 0xAB), (.unknownAC, 0xAC), (.unknownAD, 0xAD), (.unknownAE, 0xAE), (.unknownAF, 0xAF), (.unknownB0, 0xB0),
   (.unknownB1, 0xB1), (.unknownB2, 0xB2), (.unknownB3, 0xB3), (.unknownB4, 0xB4), (.unknownB5, 0xB5), (.unknownB6, 0xB6),
   (.unknownB7, 0xB7), (.unknownB8, 0xB8), (.unknownB9, 0xB9), (.unknownBA, 0xBA), (.unknownBB, 0xBB), (.unknownBC, 0xBC),
   (.unknownBD, 0xBD), (.unknownBE, 0xBE), (.unknownBF, 0xBF), (.unknownC0, 0xC0), (.unknownC1, 0xC1), (.unknownC2, 0xC2),
   (.unknownC3, 0xC3), (.unknownC4, 0xC4), (.unknownC5, 0xC5), (.unknownC6, 0xC6), (.unknownC7, 0xC7), (.unknownC8, 0xC8),
   (.unknownC9, 0xC9), (.unknownCA, 0xCA), (.unknownCB, 0xCB), (.unknownCC, 0xCC), (.unknownCD, 0xCD), (.unknownCE, 0xCE),
   (.unknownCF, 0xCF), (.unknownD0, 0xD0), (.unknownD1, 0xD1), (.unknownD2, 0xD2)]

/-- The Unknown rows, part 4 (47_unknown.md R320). -/
def rowsUnknown4 : List (Instr × Byte) :=
  [(.unknownD3, 0xD3), (.unknownD4, 0xD4), (.unknownD5, 0xD5), (.unknownD6, 0xD6), (.unknownD7, 0xD7), (.unknownD8, 0xD8),
   (.unknownD9, 0xD9), (.unknownDA, 0xDA), (.unknownDB, 0xDB), (.unknownDC, 0xDC), (.unknownDD, 0xDD), (.unknownDE, 0xDE),
   (.unknownDF, 0xDF), (.unknownE0, 0xE0), (.unknownE1, 0xE1), (.unknownE2, 0xE2), (.unknownE3, 0xE3), (.unknownE4, 0xE4),
   (.unknownE5, 0xE5), (.unknownE6, 0xE6), (.unknownE7, 0xE7), (.unknownE8, 0xE8), (.unknownE9, 0xE9), (.unknownEA, 0xEA),
   (.unknownEB, 0xEB), (.unknownEC, 0xEC), (.unknownED, 0xED), (.unknownEE, 0xEE), (.unknownEF, 0xEF), (.unknownF1, 0xF1),
   (.unknownF4, 0xF4), (.unknownF5, 0xF5), (.unknownF6, 0xF6), (.unknownF7, 0xF7), (.unknownF8, 0xF8), (.unknownF9, 0xF9),
   (.unknownFA, 0xFA), (.unknownFB, 0xFB), (.unknownFC, 0xFC), (.unknownFD, 0xFD)]

/-- The Unknown rows, part 5 (47_unknown.md R320). -/
def rowsUnknown5 : List (Instr × Byte) :=
  [(.unknownFE, 0xFE)]

/-- The 161 Unknown rows with their bytes (47_unknown.md R320). -/
def rowsUnknown : List (Instr × Byte) :=
  rowsUnknown1 ++ rowsUnknown2 ++ rowsUnknown3 ++ rowsUnknown4 ++ rowsUnknown5

/-- The 11 prefix rows with their tags and bytes (41_prefix_rex.md R180 to R190). -/
def rowsPrefix : List (Instr × Prefix × Byte) :=
  [(.prefixLock, .lock, 0xF0), (.prefixRepNE, .repNE, 0xF2), (.prefixRep, .rep, 0xF3),
   (.prefixSegES, .segES, 0x26), (.prefixSegCS, .segCS, 0x2E), (.prefixSegSS, .segSS, 0x36),
   (.prefixSegDS, .segDS, 0x3E), (.prefixSegFS, .segFS, 0x64), (.prefixSegGS, .segGS, 0x65),
   (.prefixOperandSizeOverride, .operandSizeOverride, 0x66), (.prefixAddressSizeOverride, .addressSizeOverride, 0x67)]

/-- The four Push of a segment register (45_mov_lea_push_incdec.md R306 to R309). -/
def rowsPushSeg : List (Instr × Byte × SegReg) :=
  [(.pushES, 0x06, .es), (.pushCS, 0x0E, .cs), (.pushSS, 0x16, .ss), (.pushDS, 0x1E, .ds)]

/-- The rows of a register in the opcode's low bits, with the register bits (45_mov_lea_push_incdec.md R302, R304, R305). -/
def rowsOpcodeReg : List ((BitVec 3 → Instr) × BitVec 5 × OpcodeIdentity) :=
  [(.pushRv, 0b01010, .push), (.incRv, 0b01000, .inc), (.decRv, 0b01001, .dec)]

/-- How many bytes a class Z immediate is read at (40_decode_pipeline.md R155). -/
def izBytes : OperandSize → Nat
  | .o16 => 2
  | .o32 => 4
  | .o64 => 4

/-- A class Z immediate beside an operand at eos: 16 or 32 bits, sign-extended to 64 at eos 64 (40_decode_pipeline.md R155 to
R157). -/
def izImm : OperandSize → Nat → Immediate
  | .o16, v => ⟨.b16 (BitVec.ofNat 16 v), true⟩
  | .o32, v => ⟨.b32 (BitVec.ofNat 32 v), true⟩
  | .o64, v => ⟨.b64 ((BitVec.ofNat 32 v).signExtend 64), true⟩

/-- A class B immediate beside an operand at eos: 8 bits, sign-extended to eos. -/
def ibImm : OperandSize → Nat → Immediate
  | .o16, v => ⟨.b16 ((BitVec.ofNat 8 v).signExtend 16), true⟩
  | .o32, v => ⟨.b32 ((BitVec.ofNat 8 v).signExtend 32), true⟩
  | .o64, v => ⟨.b64 ((BitVec.ofNat 8 v).signExtend 64), true⟩

/-- The accumulator at eos (40_decode_pipeline.md R154). -/
def accumulatorAt : OperandSize → Reg
  | .o16 => .ax
  | .o32 => .eax
  | .o64 => .rax

/-- The result a state of the machine was given last. -/
def lastResult (s : State) : Option Result := s.results.head?

/-- The caller's call brought into place: what the step that begins it starts from (70_reset_and_hazards.md R452). -/
def begun (s : State) (c : Call) (rest : List Call) : State :=
  { s with buf := c.buf.getD s.buf, mode := c.mode, pos := c.start, tx := Transient.init c.start, calls := rest }

/-- The state in which the transaction of `decode_one` with result r has ended. -/
def afterResult (s : State) (r : Result) : State :=
  { s with pos := r.pos, tx := Transient.init r.pos, results := r :: s.results }

end Sys2Proof.Claims

section

open Sys2Proof Sys2Proof.Machine Sys2Proof.Claims

/-! ## Encoding and lookup -/

/-- Words written out from the spec's encodings (30_encoding.md R81, R83, R107 to R110, 46_escape.md R311, R316) decode to the rows
they stand for, one or more of each family. -/
def Obligations.WordsDecodeAsTabled : Prop :=
  decode ⟨.m32, []⟩ [0b00000000] = .ok .addEbGb
    ∧ decode ⟨.m64, []⟩ [0b00110001, 0b11_000_000] = .ok .xorEvGv
    ∧ decode ⟨.m16, []⟩ [0b00111101] = .ok .cmpRAXIz
    ∧ decode ⟨.m32, []⟩ [0b10000000, 0b00_111_101] = .ok .cmpEbIb80
    ∧ decode ⟨.m32, []⟩ [0b10000001, 0b11_000_001] = .ok .addEvIz
    ∧ decode ⟨.m64, []⟩ [0b10000010, 0b11_000_000] = .ok .addEbIb82
    ∧ decode ⟨.m32, []⟩ [0b10000011, 0b11_110_000] = .ok .xorEvIb
    ∧ decode ⟨.m32, []⟩ [0b11111111, 0b00_011_000] = .ok .callFarMp
    ∧ decode ⟨.m32, []⟩ [0b11111111, 0b11_111_000] = .ok .reservedFF7
    ∧ decode ⟨.m64, []⟩ [0b10001001, 0b11_100_010] = .ok .movEvGv
    ∧ decode ⟨.m32, []⟩ [0b10001101] = .ok .leaGvMv
    ∧ decode ⟨.m16, []⟩ [0b01010_111] = .ok (.pushRv 7)
    ∧ decode ⟨.m32, []⟩ [0b01000_001] = .ok (.incRv 1)
    ∧ decode ⟨.m16, []⟩ [0b01001_110] = .ok (.decRv 6)
    ∧ decode ⟨.m64, []⟩ [0b0100_1_0_1_0] = .ok (.rex true false true false)
    ∧ decode ⟨.m64, []⟩ [0b00010110] = .ok .pushSS
    ∧ decode ⟨.m64, [.rep]⟩ [0b00001111, 0b00011110, 0b11111010] = .ok .endBr64
    ∧ decode ⟨.m32, [.rep]⟩ [0b00001111, 0b00011110, 0b11111011] = .ok .endBr32
    ∧ decode ⟨.m64, [.rep]⟩ [0b00001111, 0b00011110, 0b11001000] = .ok (.escapeRepThirdByte 0xC8)
    ∧ decode ⟨.m64, []⟩ [0b00001111, 0b00000101] = .ok (.escapeNoPrefix 0x05)
    ∧ decode ⟨.m32, []⟩ [0b01100110] = .ok .prefixOperandSizeOverride
    ∧ decode ⟨.m32, []⟩ [0b10010000] = .ok .unknown90

/-- Decode and encode agree: in every context a row occurs in, its opcode bytes, whatever follows them, decode to it, with every
operand bit (30_encoding.md R81, R83, R84, R107 to R110, 46_escape.md R310). -/
def Obligations.DecodeOfEncode : Prop :=
  ∀ (c : Ctx) (i : Instr) (rest : List Byte), i.wf = true → i.fits c = true → decode c (encode i ++ rest) = .ok i

/-- The other direction: bytes that decode to a row begin with that row's opcode bytes, and for a ModR/M-extension row the byte
after the opcode has the row's reg field; the row is well formed and occurs in the context (30_encoding.md R106 to R110). -/
def Obligations.EncodeOfDecode : Prop :=
  ∀ (c : Ctx) (bs : List Byte) (i : Instr), decode c bs = .ok i →
    i.wf = true ∧ i.fits c = true ∧ bs.take i.opLen = (encode i).take i.opLen
      ∧ ∀ b m, encode i = [b, m] → i.opLen = 1 → ∃ m', bs[1]? = some m' ∧ bits m' 3 3 = bits m 3 3

/-- The lookup is total: three bytes always decode to a row, in every context (30_encoding.md R85). A byte decodes to an Unknown row
exactly when it is one of the bytes of R110, in every context, and then to the row of that very byte; those rows are 161. -/
def Obligations.LookupIsTotalWithTheListedUnknowns : Prop :=
  (∀ (c : Ctx) (b1 b2 b3 : Byte) (rest : List Byte), ∃ i, decode c (b1 :: b2 :: b3 :: rest) = .ok i)
    ∧ rowsUnknown.length = 161
    ∧ ∀ (c : Ctx) (b : Byte) (rest : List Byte) (i : Instr), decode c (b :: rest) = .ok i →
        ((∃ b', (i, b') ∈ rowsUnknown) ↔
          b = 0x07 ∨ b = 0x17 ∨ b = 0x1F ∨ b = 0x27 ∨ b = 0x2F ∨ b = 0x37 ∨ b = 0x3F ∨ (0x58 ≤ b ∧ b ≤ 0x63)
            ∨ (0x68 ≤ b ∧ b ≤ 0x7F) ∨ (0x84 ≤ b ∧ b ≤ 0x88) ∨ (0x8A ≤ b ∧ b ≤ 0x8C) ∨ (0x8E ≤ b ∧ b ≤ 0xEF) ∨ b = 0xF1
            ∨ (0xF4 ≤ b ∧ b ≤ 0xFE))
          ∧ ∀ b', (i, b') ∈ rowsUnknown → b' = b

/-- `classify_prefix`: one of the 11 tags of R81 at its byte, none for every other byte (30_encoding.md R82). -/
def Obligations.PrefixBytesAreTheElevenOfTheTable : Prop :=
  ∀ b : Byte,
    (∀ x ∈ rowsPrefix, b = x.2.2 → classifyPrefix b = some x.2.1)
      ∧ ((∀ x ∈ rowsPrefix, b ≠ x.2.2) → classifyPrefix b = none)

/-- The REX byte: bits 7:4 = 0b0100; W, R, X, B = bits 3 to 0; bytes 0x40 to 0x4F decode to a record, all others to none
(30_encoding.md R83). -/
def Obligations.RexBytesAre40To4F : Prop :=
  ∀ b : Byte,
    (0x40 ≤ b ∧ b ≤ 0x4F → classifyRex b = some ⟨b.getLsbD 3, b.getLsbD 2, b.getLsbD 1, b.getLsbD 0⟩)
      ∧ (¬(0x40 ≤ b ∧ b ≤ 0x4F) → classifyRex b = none)

/-- REX only in 64-bit mode; outside it 0x40 to 0x47 are Inc and 0x48 to 0x4F Dec of the register in the low 3 bits
(30_encoding.md R84). -/
def Obligations.RexOnlyIn64BitMode : Prop :=
  ∀ (c : Ctx) (r : BitVec 3) (rest : List Byte),
    (c.mode ≠ .m64 → decode c ((0b01000#5 ++ r) :: rest) = .ok (.incRv r) ∧ decode c ((0b01001#5 ++ r) :: rest) = .ok (.decRv r))
      ∧ (c.mode = .m64 → ∃ i, decode c ((0b01000#5 ++ r) :: rest) = .ok i
            ∧ i = .rex false (r.getLsbD 2) (r.getLsbD 1) (r.getLsbD 0))
      ∧ (c.mode = .m64 → ∃ i, decode c ((0b01001#5 ++ r) :: rest) = .ok i
            ∧ i = .rex true (r.getLsbD 2) (r.getLsbD 1) (r.getLsbD 0))

/-! ## The step -/

/-- A step runs the decoded row: when all the unread bytes decode to a row, the step is exec of that row. Inside a transaction, and
at the start of one with no call pending, it runs at the state itself; with a call pending, at the state that call brings
(40_decode_pipeline.md R131, 70_reset_and_hazards.md R452, R453; one lookup per step and going on at the cursor with no call pending
are the model's own, log 1 and log 3). -/
def Obligations.StepRunsTheDecodedRow : Prop :=
  (∀ (s : State) (i : Instr), (s.tx.stage = .awaitingOpcode ∨ s.tx.stage = .haveRex) →
      (s.atStart = true → s.calls = [] ∧ s.pos ≤ s.buf.len) →
      decode s.ctx (s.buf.mem.bytesAt s.pos (s.buf.len - s.pos)) = .ok i → step s = exec i s)
    ∧ ∀ (s t : State) (i : Instr) (c : Call) (rest : List Call), s.atStart = true → s.calls = c :: rest → t = begun s c rest →
        t.pos ≤ t.buf.len → decode t.ctx (t.buf.mem.bytesAt t.pos (t.buf.len - t.pos)) = .ok i → step s = exec i t

/-- A lookup that lacks a byte ends the transaction with NotEnoughBytes 1 at the end of the buffer: the offset of the failing read
or peek (60_exceptions.md R401, R411). -/
def Obligations.LookupPastTheEndRaises : Prop :=
  ∀ (s : State) (r : Reject), (s.tx.stage = .awaitingOpcode ∨ s.tx.stage = .haveRex) → s.pos ≤ s.buf.len →
    (s.atStart = true → s.calls = []) → decode s.ctx (s.buf.mem.bytesAt s.pos (s.buf.len - s.pos)) = .error r →
    step s = .next (s.failed (.notEnoughBytes 1) s.buf.len)

/-- A call whose start lies beyond its buffer is refused by name (70_reset_and_hazards.md R452, 93_implementation_defined.md I8;
log 11). -/
def Obligations.StartBeyondBufferIsRefused : Prop :=
  ∀ (s : State) (c : Call) (rest : List Call), s.atStart = true → s.calls = c :: rest →
    (c.buf.getD s.buf).len < c.start → step s = .refused (.startBeyondBuffer c.start (c.buf.getD s.buf).len)

/-- A step never faults, and it is refused only at a call whose start lies beyond its buffer (60_exceptions.md R409: errors are
returned, "never thrown as uncatchable faults"). -/
def Obligations.StepAnswersNext : Prop :=
  ∀ s : State, Inv s → (∀ c ∈ s.calls, c.start ≤ (c.buf.getD s.buf).len) → ∃ t, step s = .next t

/-- The model's own placing of a word of the opcode table (log 10): the next step runs the row the word decodes to. -/
def Obligations.PlacedWordRunsItsRow : Prop :=
  ∀ (s : State) (nbits w : Nat) (i : Instr), s.buf.wf = true → decodeTableWord nbits w = some i →
    step (s.withFetchWord nbits w) = exec i (s.withFetchWord nbits w)

/-! ## Every row completes

A row's meaning is stated in every state, also one in which no lookup would give that row; there it is the model's own (log 19). -/

/-- Add, Or, Adc, Sbb, And, Sub, Xor, Cmp Eb, Gb: the r/m operand and the reg register, both at 8 bits (42_alu.md R200, R206, R212,
R218, R224, R230, R236, R242). -/
def Obligations.EbGbRowsComplete : Prop :=
  ∀ x ∈ rowsEbGb, ∀ (s : State) (m : ModRM) (sib : Option Sib) (disp : Option Displacement) (p : Nat) (o : ResolvedOperand),
    Txn.addressing s.buf s.mode s.tx.rex .MR (s.pos + 1) = .ok ⟨some m, sib, disp⟩ p →
    s.rmOperand m sib disp .w8 = some o →
    exec x.1 s = .next (s.returned
      (s.built [x.2.1] x.2.2 .MR ⟨some m, sib, disp⟩ [o, s.regFieldOperand m .w8] p) p)

/-- The eight Ev, Gv rows of the ALU block and Mov Ev, Gv: the r/m operand and the reg register, both at eos (42_alu.md R201, R207,
R213, R219, R225, R231, R237, R243, 45_mov_lea_push_incdec.md R300). -/
def Obligations.EvGvRowsComplete : Prop :=
  ∀ x ∈ rowsEvGv, ∀ (s : State) (m : ModRM) (sib : Option Sib) (disp : Option Displacement) (p : Nat) (o : ResolvedOperand),
    Txn.addressing s.buf s.mode s.tx.rex .MR (s.pos + 1) = .ok ⟨some m, sib, disp⟩ p →
    s.rmOperand m sib disp (eosWidth s.eos) = some o →
    exec x.1 s = .next (s.returned
      (s.built [x.2.1] x.2.2 .MR ⟨some m, sib, disp⟩ [o, s.regFieldOperand m (eosWidth s.eos)] p) p)

/-- The eight Gb, Eb rows: the reg register first, then the r/m operand, both at 8 bits (42_alu.md R202, R208, R214, R220, R226,
R232, R238, R244). -/
def Obligations.GbEbRowsComplete : Prop :=
  ∀ x ∈ rowsGbEb, ∀ (s : State) (m : ModRM) (sib : Option Sib) (disp : Option Displacement) (p : Nat) (o : ResolvedOperand),
    Txn.addressing s.buf s.mode s.tx.rex .RM (s.pos + 1) = .ok ⟨some m, sib, disp⟩ p →
    s.rmOperand m sib disp .w8 = some o →
    exec x.1 s = .next (s.returned
      (s.built [x.2.1] x.2.2 .RM ⟨some m, sib, disp⟩ [s.regFieldOperand m .w8, o] p) p)

/-- The eight Gv, Ev rows and Lea Gv, Mv: the reg register first, then the r/m operand, both at eos; Lea accepts a register r/m
operand like any other (42_alu.md R203, R209, R215, R221, R227, R233, R239, R245, 45_mov_lea_push_incdec.md R301). -/
def Obligations.GvEvRowsComplete : Prop :=
  ∀ x ∈ rowsGvEv, ∀ (s : State) (m : ModRM) (sib : Option Sib) (disp : Option Displacement) (p : Nat) (o : ResolvedOperand),
    Txn.addressing s.buf s.mode s.tx.rex .RM (s.pos + 1) = .ok ⟨some m, sib, disp⟩ p →
    s.rmOperand m sib disp (eosWidth s.eos) = some o →
    exec x.1 s = .next (s.returned
      (s.built [x.2.1] x.2.2 .RM ⟨some m, sib, disp⟩ [s.regFieldOperand m (eosWidth s.eos), o] p) p)

/-- The eight AL, Ib rows: AL and the signed 8-bit immediate, never widened; NotEnoughBytes 1 when it is missing (42_alu.md R204,
R210, R216, R222, R228, R234, R240, R246). -/
def Obligations.ALIbRowsComplete : Prop :=
  ∀ x ∈ rowsALIb, ∀ s : State,
    (∀ v, s.buf.value? (s.pos + 1) 1 = some v →
        exec x.1 s = .next (s.returned
          (s.built [x.2.1] x.2.2 .I noAddressing [.reg .al .w8, .imm ⟨.b8 (BitVec.ofNat 8 v), true⟩] (s.pos + 2)) (s.pos + 2)))
      ∧ (s.buf.value? (s.pos + 1) 1 = none → exec x.1 s = .next (s.failed (.notEnoughBytes 1) (s.pos + 1)))

/-- The eight rAX, Iz rows: AX, EAX or RAX by eos, and the immediate read at 16 bits when eos = 16 and at 32 bits otherwise,
sign-extended to 64 bits at eos 64; NotEnoughBytes when it is missing (42_alu.md R205, R211, R217, R223, R229, R235, R241, R247). -/
def Obligations.RAXIzRowsComplete : Prop :=
  ∀ x ∈ rowsRAXIz, ∀ s : State,
    (∀ v, s.buf.value? (s.pos + 1) (izBytes s.eos) = some v →
        exec x.1 s = .next (s.returned
          (s.built [x.2.1] x.2.2 .I noAddressing [.reg (accumulatorAt s.eos) (eosWidth s.eos), .imm (izImm s.eos v)]
            (s.pos + 1 + izBytes s.eos)) (s.pos + 1 + izBytes s.eos)))
      ∧ (s.buf.value? (s.pos + 1) (izBytes s.eos) = none →
          exec x.1 s = .next (s.failed (.notEnoughBytes (izBytes s.eos)) (s.pos + 1)))

/-- The sixteen Eb, Ib rows of opcodes 0x80 and 0x82: the r/m operand at 8 bits and the signed 8-bit immediate after the
addressing bytes (43_group1.md R250 to R257 and R266 to R273). In a state whose
byte after the opcode has another extension the lookup gives another row, and what is said there is the model's own (log 19). -/
def Obligations.EbIbRowsComplete : Prop :=
  ∀ x ∈ rowsEbIb, ∀ (s : State) (m : ModRM) (sib : Option Sib) (disp : Option Displacement) (p v : Nat) (o : ResolvedOperand),
    Txn.addressing s.buf s.mode s.tx.rex .MI (s.pos + 1) = .ok ⟨some m, sib, disp⟩ p →
    s.rmOperand m sib disp .w8 = some o → s.buf.value? p 1 = some v →
    exec x.1 s = .next (s.returned
      (s.built [x.2.1] x.2.2 .MI ⟨some m, sib, disp⟩ [o, .imm ⟨.b8 (BitVec.ofNat 8 v), true⟩] (p + 1)) (p + 1))

/-- The eight Ev, Iz rows of opcode 0x81: the r/m operand at eos and the immediate read at 16 bits when eos = 16 and at 32 bits
otherwise, sign-extended to 64 bits at eos 64 (43_group1.md R258 to R265). In a state whose
byte after the opcode has another extension the lookup gives another row, and what is said there is the model's own (log 19). -/
def Obligations.EvIzRowsComplete : Prop :=
  ∀ x ∈ rowsEvIz, ∀ (s : State) (m : ModRM) (sib : Option Sib) (disp : Option Displacement) (p v : Nat) (o : ResolvedOperand),
    Txn.addressing s.buf s.mode s.tx.rex .MI (s.pos + 1) = .ok ⟨some m, sib, disp⟩ p →
    s.rmOperand m sib disp (eosWidth s.eos) = some o → s.buf.value? p (izBytes s.eos) = some v →
    exec x.1 s = .next (s.returned
      (s.built [x.2.1] x.2.2 .MI ⟨some m, sib, disp⟩ [o, .imm (izImm s.eos v)] (p + izBytes s.eos)) (p + izBytes s.eos))

/-- The eight Ev, Ib rows of opcode 0x83: the r/m operand at eos and the 8-bit immediate sign-extended to eos (43_group1.md R274 to
R281). In a state whose
byte after the opcode has another extension the lookup gives another row, and what is said there is the model's own (log 19). -/
def Obligations.EvIbRowsComplete : Prop :=
  ∀ x ∈ rowsEvIb, ∀ (s : State) (m : ModRM) (sib : Option Sib) (disp : Option Displacement) (p v : Nat) (o : ResolvedOperand),
    Txn.addressing s.buf s.mode s.tx.rex .MI (s.pos + 1) = .ok ⟨some m, sib, disp⟩ p →
    s.rmOperand m sib disp (eosWidth s.eos) = some o → s.buf.value? p 1 = some v →
    exec x.1 s = .next (s.returned
      (s.built [x.2.1] x.2.2 .MI ⟨some m, sib, disp⟩ [o, .imm (ibImm s.eos v)] (p + 1)) (p + 1))

/-- Inc, Dec, CallNear, JmpNear and Push Ev and CallFar and JmpFar Mp of opcode 0xFF: the one r/m operand at eos, register or memory
(44_group5.md R290 to R296). In a state whose
byte after the opcode has another extension the lookup gives another row, and what is said there is the model's own (log 19). -/
def Obligations.GroupFiveRowsComplete : Prop :=
  ∀ x ∈ rowsGroup5, ∀ (s : State) (m : ModRM) (sib : Option Sib) (disp : Option Displacement) (p : Nat) (o : ResolvedOperand),
    Txn.addressing s.buf s.mode s.tx.rex .M (s.pos + 1) = .ok ⟨some m, sib, disp⟩ p →
    s.rmOperand m sib disp (eosWidth s.eos) = some o →
    exec x.1 s = .next (s.returned (s.built [x.2.1] x.2.2 .M ⟨some m, sib, disp⟩ [o] p) p)

/-- Push rv, and Inc rv and Dec rv outside 64-bit mode: the register in the opcode's low 3 bits, REX.B-extended in 64-bit mode, at eos
(45_mov_lea_push_incdec.md R302, R304, R305). The meanings of Inc and Dec are the same in a state with mode 64, which no lookup
gives them (log 19). -/
def Obligations.OpcodeRegisterRowsComplete : Prop :=
  ∀ x ∈ rowsOpcodeReg, ∀ (r : BitVec 3) (s : State),
    exec (x.1 r) s = .next (s.returned
      (s.built [x.2.1 ++ r] x.2.2 .O noAddressing
        [.reg (namedReg (extend s.mode (rexBit Rex.b s.tx.rex) r) (eosWidth s.eos) s.tx.rex.isSome) (eosWidth s.eos)]
        (s.pos + 1)) (s.pos + 1))

/-- Push ES, CS, SS and DS: the segment register, always tagged 16 bits (45_mov_lea_push_incdec.md R306 to R309). -/
def Obligations.PushSegmentRowsComplete : Prop :=
  ∀ x ∈ rowsPushSeg, ∀ s : State,
    exec x.1 s = .next (s.returned (s.built [x.2.1] .push .ZO noAddressing [.seg x.2.2] (s.pos + 1)) (s.pos + 1))

/-- EndBr64 and EndBr32: three opcode bytes, no operands, in every mode (46_escape.md R311, R316). R311 and R316 apply where P is not
empty and all Rep; behind any other P no lookup gives these rows, and their meaning there is the model's own (log 19). -/
def Obligations.EndBrRowsComplete : Prop :=
  ∀ s : State,
    exec .endBr64 s = .next (s.returned (s.built [0x0F, 0x1E, 0xFA] .endBr64 .ZO noAddressing [] (s.pos + 3)) (s.pos + 3))
      ∧ exec .endBr32 s = .next (s.returned (s.built [0x0F, 0x1E, 0xFB] .endBr32 .ZO noAddressing [] (s.pos + 3)) (s.pos + 3))

/-- The 161 Unknown rows: not an error, no operands, one opcode byte (30_encoding.md R110, 47_unknown.md R320,
R321, 60_exceptions.md R407). -/
def Obligations.UnknownRowsComplete : Prop :=
  ∀ x ∈ rowsUnknown, ∀ s : State,
    exec x.1 s = .next (s.returned (s.built [x.2] .unknown .ZO noAddressing [] (s.pos + 1)) (s.pos + 1))

/-- The 11 prefix rows: recorded at the end of P while P has room and no REX byte was read (40_decode_pipeline.md R132); as the
fourth prefix, and after a REX byte (R134), InvalidPrefix with the byte consumed (60_exceptions.md R402, R411). -/
def Obligations.PrefixRowsComplete : Prop :=
  ∀ x ∈ rowsPrefix, ∀ s : State,
    (s.tx.rex = none → s.tx.prefixes.length < 3 →
        exec x.1 s = .next { s with pos := s.pos + 1, tx := { s.tx with prefixes := s.tx.prefixes ++ [x.2.1] } })
      ∧ (s.tx.rex = none → 3 ≤ s.tx.prefixes.length →
          exec x.1 s = .next (s.failed (.invalidPrefix (.fourth x.2.1)) (s.pos + 1)))
      ∧ (s.tx.rex ≠ none → exec x.1 s = .next (s.failed (.invalidPrefix (.afterRex x.2.2)) (s.pos + 1)))

/-- The REX row: recorded, entering HaveRex; a second REX byte raises InvalidPrefix with that byte consumed
(40_decode_pipeline.md R134, 41_prefix_rex.md R191). R134 applies in 64-bit mode only (30_encoding.md R84); in 16- and 32-bit mode no
lookup gives this row, and its meaning there is the model's own (log 19). -/
def Obligations.RexRowCompletes : Prop :=
  ∀ (w r x b : Bool) (s : State),
    (s.tx.rex = none →
        exec (.rex w r x b) s
          = .next { s with pos := s.pos + 1, tx := { s.tx with rex := some ⟨w, r, x, b⟩, stage := .haveRex } })
      ∧ (s.tx.rex ≠ none →
          exec (.rex w r x b) s = .next (s.failed (.invalidPrefix (.afterRex (Rex.raw ⟨w, r, x, b⟩))) (s.pos + 1)))

/-- The rows that are an error end the transaction with it, at the position of 60_exceptions.md R411: the reserved FF /7
(44_group5.md R297) and the four escape errors (46_escape.md R312 to R315). Behind a P, or with a byte, other than R312 to R315 give
these rows, and for FF /7 over another extension, no lookup gives the row, and its meaning there is the model's own (log 19). -/
def Obligations.ErrorRowsRaise : Prop :=
  ∀ (b : Byte) (s : State),
    exec .reservedFF7 s = .next (s.failed (.invalidExtension 0xFF 7) (s.pos + 1))
      ∧ exec .escapePrefixOtherThanRep s = .next (s.failed (.invalidPrefix (.escape s.tx.prefixes)) (s.pos + 1))
      ∧ exec (.escapeNoPrefix b) s = .next (s.failed (.invalidOpcode 0x0F b) (s.pos + 2))
      ∧ exec (.escapeRepSecondByte b) s = .next (s.failed (.invalidOpcode 0x0F b) (s.pos + 2))
      ∧ exec (.escapeRepThirdByte b) s = .next (s.failed (.invalid3ByteOpcode 0x0F 0x1E b) (s.pos + 3))

/-! ## Where rows raise errors -/

/-- Every row with a ModR/M byte: operand bytes that run past the buffer end the transaction with NotEnoughBytes at the failing read
(60_exceptions.md R401, R411, 40_decode_pipeline.md R142). Where no lookup gives the row, this is the model's own (log 19). -/
def Obligations.ShortAddressingBytesRaise : Prop :=
  ∀ x ∈ rowsModRM, ∀ (s : State) (e : DecodeError) (p : Nat),
    Txn.addressing s.buf s.mode s.tx.rex .MR (s.pos + 1) = .raise e p →
    exec x.1 s = .next (s.failed e p) ∧ ∃ n, (n = 1 ∨ n = 2 ∨ n = 4) ∧ e = .notEnoughBytes n ∧ s.buf.len < p + n

/-- Where an r/m operand resolves and where it raises (40_decode_pipeline.md R150, R151, 60_exceptions.md R406, R411). A register
form always names its register. A memory form in 64-bit mode, or without 0x67 in P, is the memory descriptor at eas. A memory form
with 0x67 in 16- or 32-bit mode is none, and there every row with a ModR/M byte raises InvalidAddressSize, after the ModR/M, SIB and
displacement bytes and before any immediate; where no lookup gives the row, that is the model's own (log 19). -/
def Obligations.AddressSizeOverrideWithMemoryRaises : Prop :=
  (∀ (s : State) (b : Byte) (sib : Option Sib) (disp : Option Displacement) (w : Width),
      let m := decodeModRM b s.mode s.tx.rex
      (modOf b = 3 → s.rmOperand m sib disp w = some (.reg (namedReg m.rm w s.tx.rex.isSome) w))
        ∧ (modOf b ≠ 3 → s.mode = .m64 ∨ Prefix.addressSizeOverride ∉ s.tx.prefixes →
            ∃ d, memDescriptor s.mode s.eas m sib disp = some d ∧ s.rmOperand m sib disp w = some (.mem d w))
        ∧ (modOf b ≠ 3 → s.mode ≠ .m64 → Prefix.addressSizeOverride ∈ s.tx.prefixes → s.rmOperand m sib disp w = none))
    ∧ ∀ x ∈ rowsModRM, ∀ (s : State) (m : ModRM) (sib : Option Sib) (disp : Option Displacement) (p : Nat),
        Txn.addressing s.buf s.mode s.tx.rex .MR (s.pos + 1) = .ok ⟨some m, sib, disp⟩ p → modOf m.raw ≠ 3 →
        Prefix.addressSizeOverride ∈ s.tx.prefixes →
        (s.mode = .m16 → exec x.1 s = .next (s.failed (.invalidAddressSize .m16 .a32) p))
          ∧ (s.mode = .m32 → exec x.1 s = .next (s.failed (.invalidAddressSize .m32 .a16) p))

/-- Group 1: an immediate that runs past the buffer raises NotEnoughBytes at its first byte (60_exceptions.md R401, R411,
40_decode_pipeline.md R155). Where no lookup gives the row, this is the model's own (log 19). -/
def Obligations.ShortImmediatesRaise : Prop :=
  ∀ (s : State) (m : ModRM) (sib : Option Sib) (disp : Option Displacement) (p : Nat),
    Txn.addressing s.buf s.mode s.tx.rex .MI (s.pos + 1) = .ok ⟨some m, sib, disp⟩ p →
    s.rmOperand m sib disp .w8 ≠ none →
    (∀ x ∈ rowsEbIb ++ rowsEvIb, s.buf.value? p 1 = none → exec x.1 s = .next (s.failed (.notEnoughBytes 1) p))
      ∧ ∀ x ∈ rowsEvIz, s.buf.value? p (izBytes s.eos) = none →
          exec x.1 s = .next (s.failed (.notEnoughBytes (izBytes s.eos)) p)

/-- The escape byte at the cursor, by the prefix list (46_escape.md R310 to R316): what the step does for every P and every pair of
bytes after it. -/
def Obligations.EscapeDispatch : Prop :=
  ∀ s : State, (s.tx.stage = .awaitingOpcode ∨ s.tx.stage = .haveRex) → (s.atStart = true → s.calls = []) →
    s.buf.byte? s.pos = some 0x0F →
    (s.tx.prefixes = [] → ∀ b2, s.buf.byte? (s.pos + 1) = some b2 →
        step s = .next (s.failed (.invalidOpcode 0x0F b2) (s.pos + 2)))
      ∧ ((∃ q ∈ s.tx.prefixes, q ≠ .rep) → step s = .next (s.failed (.invalidPrefix (.escape s.tx.prefixes)) (s.pos + 1)))
      ∧ (s.tx.prefixes ≠ [] → (∀ q ∈ s.tx.prefixes, q = .rep) → ∀ b2, s.buf.byte? (s.pos + 1) = some b2 →
          (b2 ≠ 0x1E → step s = .next (s.failed (.invalidOpcode 0x0F b2) (s.pos + 2)))
            ∧ (b2 = 0x1E → ∀ b3, s.buf.byte? (s.pos + 2) = some b3 →
                (b3 ≠ 0xFA → b3 ≠ 0xFB → step s = .next (s.failed (.invalid3ByteOpcode 0x0F 0x1E b3) (s.pos + 3)))
                  ∧ (b3 = 0xFA → step s = .next (s.returned
                      (s.built [0x0F, 0x1E, 0xFA] .endBr64 .ZO noAddressing [] (s.pos + 3)) (s.pos + 3)))
                  ∧ (b3 = 0xFB → step s = .next (s.returned
                      (s.built [0x0F, 0x1E, 0xFB] .endBr32 .ZO noAddressing [] (s.pos + 3)) (s.pos + 3)))))

/-- InvalidModRM is raised by no row in any state (60_exceptions.md R408, 10_state.md R49); a row in a state where no lookup gives it
is the model's own (log 19). -/
def Obligations.InvalidModRMIsNeverRaised : Prop :=
  ∀ (i : Instr) (s t : State) (p : Nat), exec i s = .next t → t.results ≠ .error .invalidModRM p :: s.results

/-! ## What every row leaves unchanged -/

/-- Every row answers a next state in every state, errors included (60_exceptions.md R409), and this is its frame: the buffer, every
byte of it, the mode and the pending calls stay. Either the transaction goes on, one byte further, with the earlier results and every
transient field but P, rex and the stage as before; or it has ended: one result is handed over, with the position the cursor stands
at, the earlier results stay, and every transient field is back at its initial value (R410, 10_state.md R41, R48, R50, 20_memory.md
R60; that the ending step itself resets the transient fields is the model's own, log 20, and so is a row in a state where no lookup
gives it, log 19). -/
def Obligations.EveryRowAnswersNextWithItsFrame : Prop :=
  ∀ (i : Instr) (s : State), ∃ t, exec i s = .next t
    ∧ t.buf = s.buf ∧ (∀ a, t.buf.mem.read a = s.buf.mem.read a) ∧ t.mode = s.mode ∧ t.calls = s.calls
    ∧ ((t.results = s.results ∧ t.pos = s.pos + 1
          ∧ t.tx = { s.tx with prefixes := t.tx.prefixes, rex := t.tx.rex, stage := t.tx.stage })
        ∨ (t.tx = Transient.init t.pos ∧ ∃ r : Result, r.pos = t.pos ∧ t.results = r :: s.results))

/-- A failed transaction changes nothing but the cursor position: where a row, or a step with no call to begin, hands over an error,
the buffer, the mode, every earlier result and every pending call are unchanged, and the transient state is that of a new
transaction: no partial Instruction is left or returned (60_exceptions.md R410; that the failing step itself resets the transient
fields is the model's own, log 20). -/
def Obligations.AnErrorChangesOnlyThePosition : Prop :=
  ∀ (s t : State) (e : DecodeError) (p : Nat), t.results = .error e p :: s.results →
    ((∃ i, exec i s = .next t) ∨ ((s.atStart = true → s.calls = []) ∧ step s = .next t)) →
    t = { s with pos := p, tx := Transient.init p, results := .error e p :: s.results }

/-- The cursor never moves back, and a row found by the lookup never leaves it beyond the buffer (10_state.md R39, 20_memory.md
R65). -/
def Obligations.CursorMovesForwardInsideTheBuffer : Prop :=
  ∀ (i : Instr) (s t : State), decode s.ctx s.fetch = .ok i → exec i s = .next t → s.pos ≤ t.pos ∧ t.pos ≤ s.buf.len

/-! ## Reads -/

/-- `ReadN(n)`: the little-endian sum of the n bytes at the cursor, which moves past them and changes nothing else (20_memory.md
R64). -/
def Obligations.ReadsAreLittleEndian : Prop :=
  ∀ (n : Nat) (s : State), s.pos + n ≤ s.buf.len →
    readN n s = .ok (Finset.sum (Finset.range n) fun i => (s.buf.mem.read (s.pos + i)).toNat * 2 ^ (8 * i))
      { s with pos := s.pos + n }

/-- A read that lacks bytes raises NotEnoughBytes and consumes none of them; so does the read of one byte (20_memory.md R65). -/
def Obligations.FailedReadsConsumeNothing : Prop :=
  ∀ (n : Nat) (s : State), s.buf.len < s.pos + n →
    readN n s = .raise (.notEnoughBytes n) s ∧ (n = 1 → read8 s = .raise (.notEnoughBytes 1) s)

/-- What the addressing stages read. For each of the four encodings with a ModR/M byte: that byte; a SIB byte exactly when the mode
is 32 or 64, mod ≠ 11 and rm3 = 100 (30_encoding.md R100); then, right after the SIB byte if one was read and else right after the
ModR/M byte, the displacement of the width the form selects, little-endian (R97); nothing more. For the other encodings no SIB byte
and no displacement. -/
def Obligations.AddressingReadsItsBytesInOrder : Prop :=
  ∀ (buf : Buffer) (mode : CpuMode) (rex : Option Rex) (enc : Encoding) (p q : Nat) (a : Txn.Addressing),
    Txn.addressing buf mode rex enc p = .ok a q →
    ((enc = .M ∨ enc = .MI ∨ enc = .MR ∨ enc = .RM) →
      ∃ (b : Byte) (d : Nat), buf.byte? p = some b ∧ a.modrm = some (decodeModRM b mode rex)
        ∧ ((mode = .m32 ∨ mode = .m64) ∧ modOf b ≠ 3 ∧ rm3Of b = 4 →
            ∃ x, buf.byte? (p + 1) = some x ∧ a.sib = some (decodeSib x (modOf b) mode rex) ∧ d = p + 2)
        ∧ (¬((mode = .m32 ∨ mode = .m64) ∧ modOf b ≠ 3 ∧ rm3Of b = 4) → a.sib = none ∧ d = p + 1)
        ∧ (dispWidth (decodeModRM b mode rex) a.sib = none → a.disp = none ∧ q = d)
        ∧ ∀ w, dispWidth (decodeModRM b mode rex) a.sib = some w →
            q = d + w.bytes ∧ q ≤ buf.len ∧ a.disp = some (sizedOfNat w (leValue (buf.mem.bytesAt d w.bytes))))
      ∧ ((enc = .I ∨ enc = .O ∨ enc = .ZO) → a.modrm = none ∧ a.sib = none ∧ a.disp = none ∧ q = p)

/-- A ModR/M byte is consumed exactly by the encodings M, MI, MR and RM; I, O and ZO consume none, and no SIB or displacement byte
either (30_encoding.md R99). -/
def Obligations.ModRMByteOnlyForFourEncodings : Prop :=
  ∀ (buf : Buffer) (mode : CpuMode) (rex : Option Rex) (enc : Encoding) (p q : Nat) (a : Txn.Addressing),
    Txn.addressing buf mode rex enc p = .ok a q →
    ((enc = .M ∨ enc = .MI ∨ enc = .MR ∨ enc = .RM) →
        p + 1 ≤ q ∧ ∃ b, buf.byte? p = some b ∧ a.modrm = some (decodeModRM b mode rex))
      ∧ ((enc = .I ∨ enc = .O ∨ enc = .ZO) → a = noAddressing ∧ q = p)

/-! ## Sizes, registers, addressing forms, immediates -/

/-- The effective operand and address sizes by mode, 0x66 or 0x67 in P once or more, and REX.W (40_decode_pipeline.md R145, R146). -/
def Obligations.EffectiveSizesByModeAndOverride : Prop :=
  ∀ (mode : CpuMode) (ps : List Prefix) (rex : Option Rex),
    (mode ≠ .m64 ∨ rexBit Rex.w rex = false →
        (Prefix.operandSizeOverride ∉ ps →
            eosOf mode ps rex = match mode with | .m16 => .o16 | .m32 => .o32 | .m64 => .o32)
          ∧ (Prefix.operandSizeOverride ∈ ps →
              eosOf mode ps rex = match mode with | .m16 => .o32 | .m32 => .o16 | .m64 => .o16))
      ∧ (mode = .m64 → rexBit Rex.w rex = true → eosOf mode ps rex = .o64)
      ∧ (Prefix.addressSizeOverride ∉ ps →
          easOf mode ps = match mode with | .m16 => .a16 | .m32 => .a32 | .m64 => .a64)
      ∧ (Prefix.addressSizeOverride ∈ ps →
          easOf mode ps = match mode with | .m16 => .a32 | .m32 => .a16 | .m64 => .a32)

/-- The registers by number, row 0 to row 15, in the five columns of 10_state.md R23 (R27): 64, 32, 16 bits, 8 bits without REX,
8 bits with REX; and `namedReg`, the total form the statements use, is that register wherever the table has one. -/
def Obligations.RegistersByNumber : Prop :=
  (List.finRange 16).map (fun n => regName (BitVec.ofFin n) .w64 false)
      = [Reg.rax, .rcx, .rdx, .rbx, .rsp, .rbp, .rsi, .rdi, .r8, .r9, .r10, .r11, .r12, .r13, .r14, .r15].map some
    ∧ (List.finRange 16).map (fun n => regName (BitVec.ofFin n) .w32 true)
        = [Reg.eax, .ecx, .edx, .ebx, .esp, .ebp, .esi, .edi, .r8d, .r9d, .r10d, .r11d, .r12d, .r13d, .r14d, .r15d].map some
    ∧ (List.finRange 16).map (fun n => regName (BitVec.ofFin n) .w16 false)
        = [Reg.ax, .cx, .dx, .bx, .sp, .bp, .si, .di, .r8w, .r9w, .r10w, .r11w, .r12w, .r13w, .r14w, .r15w].map some
    ∧ (List.finRange 16).map (fun n => regName (BitVec.ofFin n) .w8 false)
        = [Reg.al, .cl, .dl, .bl, .ah, .ch, .dh, .bh].map some ++ List.replicate 8 none
    ∧ (List.finRange 16).map (fun n => regName (BitVec.ofFin n) .w8 true)
        = [Reg.al, .cl, .dl, .bl, .spl, .bpl, .sil, .dil, .r8b, .r9b, .r10b, .r11b, .r12b, .r13b, .r14b, .r15b].map some
    ∧ (∀ (n : BitVec 4) (w : Width), w ≠ .w8 → regName n w true = regName n w false)
    ∧ ∀ (n : BitVec 4) (w : Width) (rexp : Bool) (r : Reg), regName n w rexp = some r → namedReg n w rexp = r

/-- `family.at_size`: the member of the family of that width, at 8 bits the low-byte member and never AH, CH, DH or BH; an unmapped
size gives the 32-bit member (10_state.md R25). `convert_with_size` goes through the family (R26). -/
def Obligations.FamiliesAtSize : Prop :=
  ∀ (f : Family) (w : Width) (r : Reg) (z : OpSize),
    familyOf (familyAt f w) = f ∧ regWidth (familyAt f w) = w
      ∧ familyAt f .w8 ∉ [Reg.ah, .ch, .dh, .bh]
      ∧ (familyOf r = f → regWidth r = w → r ∉ [Reg.ah, .ch, .dh, .bh] → familyAt f w = r)
      ∧ familyAtSize f .cpuMode = familyAt f .w32
      ∧ (opSizeWidth z = some w → familyAtSize f z = familyAt f w ∧ convertWithSize r z = familyAt (familyOf r) w)

/-- The ModR/M record: mod, reg and rm are bits 7:6, 5:3 and 2:0, and in 64-bit mode REX.R and REX.B are prepended as bit 3
(30_encoding.md R87, R88); mod = 11 always, and only it, gives the register form, of register rm (R90). -/
def Obligations.ModRMFieldsAndRegisterForm : Prop :=
  ∀ (b : Byte) (mode : CpuMode) (rex : Option Rex),
    (decodeModRM b mode rex).raw = b
      ∧ (modOf b).toNat = b.toNat / 64 ∧ (reg3Of b).toNat = b.toNat / 8 % 8 ∧ (rm3Of b).toNat = b.toNat % 8
      ∧ (decodeModRM b mode rex).reg.toNat
          = (reg3Of b).toNat + (if mode = .m64 ∧ rexBit Rex.r rex = true then 8 else 0)
      ∧ (decodeModRM b mode rex).rm.toNat
          = (rm3Of b).toNat + (if mode = .m64 ∧ rexBit Rex.b rex = true then 8 else 0)
      ∧ (modOf b = 3 → (decodeModRM b mode rex).form = .direct (decodeModRM b mode rex).rm)
      ∧ (modOf b ≠ 3 → directRegister (decodeModRM b mode rex) = none)

/-- The 32- and 64-bit addressing forms and their displacement widths without a SIB byte, keyed on rm3 whatever REX.B is
(30_encoding.md R89). -/
def Obligations.AddressingForms32And64 : Prop :=
  ∀ (b : Byte) (mode : CpuMode) (rex : Option Rex), mode ≠ .m16 → modOf b ≠ 3 →
    (rm3Of b = 4 → (decodeModRM b mode rex).form = .sib)
      ∧ (modOf b = 0 → rm3Of b = 5 → (decodeModRM b mode rex).form = .noBase
          ∧ dispWidth (decodeModRM b mode rex) none = some .w32)
      ∧ (rm3Of b ≠ 4 → ¬(modOf b = 0 ∧ rm3Of b = 5) →
          (decodeModRM b mode rex).form = .base (decodeModRM b mode rex).rm
            ∧ dispWidth (decodeModRM b mode rex) none
                = if modOf b = 0 then none else if modOf b = 1 then some .w8 else some .w32)

/-- The 16-bit addressing forms: the eight pairs, the disp16 form, no SIB byte, and the displacement widths (30_encoding.md R92). -/
def Obligations.AddressingForms16 : Prop :=
  ∀ (b : Byte) (rex : Option Rex), modOf b ≠ 3 →
    (modOf b = 0 → rm3Of b = 6 →
        (decodeModRM b .m16 rex).form = .noBase16 ∧ dispWidth (decodeModRM b .m16 rex) none = some .w16)
      ∧ (¬(modOf b = 0 ∧ rm3Of b = 6) →
          (decodeModRM b .m16 rex).form
              = (match (rm3Of b).toNat with
                | 0 => .pair16 .bx (some .si)
                | 1 => .pair16 .bx (some .di)
                | 2 => .pair16 .bp (some .si)
                | 3 => .pair16 .bp (some .di)
                | 4 => .pair16 .si none
                | 5 => .pair16 .di none
                | 6 => .pair16 .bp none
                | _ => .pair16 .bx none)
            ∧ dispWidth (decodeModRM b .m16 rex) none
                = if modOf b = 0 then none else if modOf b = 1 then some .w8 else some .w16)

/-- The SIB byte: index3 = 100 means no index and no scale whatever REX.X is; else scale 00 gives no factor and 01, 10, 11 give 2, 4,
8 (30_encoding.md R94); mod = 00 with base3 = 101 means no base and a forced disp32 whatever REX.B is (R95). -/
def Obligations.SibIndexScaleAndBase : Prop :=
  ∀ (b x : Byte) (mode : CpuMode) (rex : Option Rex), (decodeModRM b mode rex).form = .sib →
    let sib := decodeSib x (modOf b) mode rex
    (index3Of x = 4 → sib.index = none ∧ sib.scale = none)
      ∧ (index3Of x ≠ 4 →
          sib.index.map BitVec.toNat = some ((index3Of x).toNat + if mode = .m64 ∧ rexBit Rex.x rex = true then 8 else 0)
            ∧ sib.scale = (match (scale2Of x).toNat with | 0 => none | 1 => some .s2 | 2 => some .s4 | _ => some .s8))
      ∧ (modOf b = 0 → base3Of x = 5 → sib.base = none ∧ dispWidth (decodeModRM b mode rex) (some sib) = some .w32)
      ∧ (¬(modOf b = 0 ∧ base3Of x = 5) →
          sib.base.map BitVec.toNat = some ((base3Of x).toNat + if mode = .m64 ∧ rexBit Rex.b rex = true then 8 else 0)
            ∧ dispWidth (decodeModRM b mode rex) (some sib)
                = if modOf b = 0 then none else if modOf b = 1 then some .w8 else some .w32)

/-- The accessors: with mod = 11 there is a direct register number, rm, and no memory descriptor; with any other mod there is a memory
descriptor and no register number, whatever else is given (30_encoding.md R93). -/
def Obligations.AccessorsByModAlone : Prop :=
  ∀ (b : Byte) (mode : CpuMode) (rex : Option Rex) (eas : AddrSize) (sib : Option Sib) (disp : Option Displacement),
    (modOf b = 3 → directRegister (decodeModRM b mode rex) = some (decodeModRM b mode rex).rm
        ∧ memDescriptor mode eas (decodeModRM b mode rex) sib disp = none)
      ∧ (modOf b ≠ 3 → directRegister (decodeModRM b mode rex) = none
          ∧ ∃ d, memDescriptor mode eas (decodeModRM b mode rex) sib disp = some d ∧ d.asize = eas ∧ d.disp = disp)

/-- The memory descriptor: base and index named at the address size, scale and displacement passed on, RIP-relative exactly for the
NoBase form in 64-bit mode, none exactly for a register form; and a base or index at an address size is the register of the table at
that size, REX or not (40_decode_pipeline.md R151 `reg(n, eas, rexp)`, 10_state.md R27, R44, 30_encoding.md R91). -/
def Obligations.MemoryDescriptorsByForm : Prop :=
  (∀ (n : BitVec 4) (rexp : Bool),
      regName n .w16 rexp = some (addrReg n .a16) ∧ regName n .w32 rexp = some (addrReg n .a32)
        ∧ regName n .w64 rexp = some (addrReg n .a64))
    ∧ ∀ (mode : CpuMode) (eas : AddrSize) (m : ModRM) (sib : Option Sib) (disp : Option Displacement),
        match m.form with
        | .direct _ => memDescriptor mode eas m sib disp = none
        | .base rm => memDescriptor mode eas m sib disp = some ⟨eas, .base, some (addrReg rm eas), none, none, disp, false⟩
        | .noBase => memDescriptor mode eas m sib disp = some ⟨eas, .noBase, none, none, none, disp, decide (mode = .m64)⟩
        | .noBase16 => memDescriptor mode eas m sib disp = some ⟨eas, .noBase16, none, none, none, disp, false⟩
        | .pair16 r r' => memDescriptor mode eas m sib disp = some ⟨eas, .pair16, some r, r', none, disp, false⟩
        | .sib => ∀ x, sib = some x →
            memDescriptor mode eas m sib disp
              = some ⟨eas, .sib, x.base.map (addrReg · eas), x.index.map (addrReg · eas), x.scale, disp, false⟩

/-- Widening: an immediate takes the size of the operand before it when that is larger, by sign extension, and is else not changed;
`widen` to its own or a smaller size changes nothing; widening twice is widening once; every immediate is signed
(40_decode_pipeline.md R157). -/
def Obligations.WideningIsSignExtension : Prop :=
  (∀ (ops : List ResolvedOperand) (v : Sized),
      (immediateAfter ops v).signed = true ∧ (ops = [] → immediateAfter ops v = ⟨v, true⟩)
        ∧ ∀ o, ops.getLast? = some o → immediateAfter ops v = widen ⟨v, true⟩ (operandWidth o))
    ∧ ∀ (i : Immediate) (w2 w3 : Width), i.signed = true →
        (widen i w2).signed = true
          ∧ (w2.bits ≤ i.value.width.bits → widen i w2 = i)
          ∧ (i.value.width.bits < w2.bits →
              (widen i w2).value.width = w2
                ∧ (i.value.toNat < 2 ^ (i.value.width.bits - 1) → (widen i w2).value.toNat = i.value.toNat)
                ∧ (2 ^ (i.value.width.bits - 1) ≤ i.value.toNat →
                    (widen i w2).value.toNat = 2 ^ w2.bits - 2 ^ i.value.width.bits + i.value.toNat))
          ∧ (i.value.width.bits ≤ w2.bits → w2.bits ≤ w3.bits → widen (widen i w2) w3 = widen i w3)

/-! ## The headline statements -/

/-- The stepping machine refines `decode_one`: from the start of a transaction, at the cursor or at a pending call, between one and
five steps end it with exactly the result of `Txn.decodeOne` on the buffer, the start and the mode, and change nothing else
(40_decode_pipeline.md R131, R161, 70_reset_and_hazards.md R452, R453). The steps are the model's own: one lookup a step, hence one
to five of them (log 1), beginning at the cursor with no call pending (log 3), the result added to a list (log 5), the transient
fields reset by the ending step (log 20). -/
def Obligations.TransactionIsDecodeOne : Prop :=
  (∀ s : State, s.atStart = true → s.calls = [] → s.pos ≤ s.buf.len →
      ∃ k, 1 ≤ k ∧ k ≤ 5 ∧ Host.Core.run Sys2Proof.core k s = .next (afterResult s (Txn.decodeOne s.buf s.pos s.mode)))
    ∧ ∀ (s : State) (c : Call) (rest : List Call), s.atStart = true → s.calls = c :: rest →
        c.start ≤ (c.buf.getD s.buf).len →
        ∃ k, 1 ≤ k ∧ k ≤ 5 ∧ Host.Core.run Sys2Proof.core k s
          = .next (afterResult (begun s c rest) (Txn.decodeOne (c.buf.getD s.buf) c.start c.mode))

/-- A transaction under way ends as if it had been decoded from its start in one piece: what it has scanned so far is what
`decode_one` scans (40_decode_pipeline.md R131 to R135). The one to four steps are the model's own (log 1), and so is how they end
(log 5, log 20). -/
def Obligations.TransactionUnderWayIsDecodeOne : Prop :=
  ∀ s : State, Inv s → s.atStart = false →
    ∃ k, 1 ≤ k ∧ k ≤ 4 ∧ Host.Core.run Sys2Proof.core k s = .next (afterResult s (Txn.decodeOne s.buf s.tx.start s.mode))

/-- The result of a transaction is a function of the buffer, the start and the mode alone: two machines that agree on them and on
nothing else end their transactions with the same result at the same position (10_state.md R51). The steps it takes, and beginning
at the cursor with no call pending, are the model's own (log 1, log 3). -/
def Obligations.SameInputsSameResult : Prop :=
  ∀ s s' : State, s.atStart = true → s'.atStart = true → s.calls = [] → s'.calls = [] → s.pos ≤ s.buf.len →
    s.buf = s'.buf → s.pos = s'.pos → s.mode = s'.mode →
    ∃ k t t', k ≤ 5 ∧ Host.Core.run Sys2Proof.core k s = .next t ∧ Host.Core.run Sys2Proof.core k s' = .next t'
      ∧ t.results.length = s.results.length + 1 ∧ t'.results.length = s'.results.length + 1
      ∧ t.pos = t'.pos ∧ lastResult t = lastResult t'

/-- Every step keeps the invariant: the buffer's memory stays canonical, the cursor stays inside the buffer, just after the scanned
prefix and REX bytes, at most three prefixes, REX only in 64-bit mode, and every Instruction handed out satisfies the length identity
and its bounds (10_state.md R33, R34, R39, R41, R42, R47, 30_encoding.md R84, R115, 60_exceptions.md R408). -/
def Obligations.EveryStepKeepsTheInvariant : Prop :=
  ∀ s t : State, Inv s → step s = .next t → Inv t

/-- The invariant holds right after reset: of the transient fields by 70_reset_and_hazards.md R450, of the buffer, the mode and the
position by the model's own values (log 6, log 7). -/
def Obligations.InvariantHoldsAtReset : Prop := Inv State.reset

/-- The length identity: a decoded Instruction's length is the number of its prefixes, REX, opcode, ModR/M, SIB, displacement and
immediate bytes, the immediate counted at its read width; the position has moved by exactly that (10_state.md R47); and the buffer
holds exactly the bytes those records stand for there. -/
def Obligations.DecodedBytesAreTheBytesRead : Prop :=
  ∀ (buf : Buffer) (start : Nat) (mode : CpuMode) (ins : Instruction) (p : Nat),
    Txn.decodeOne buf start mode = .instruction ins p →
    ins.length = ins.prefixes.length + (if ins.rex.isSome then 1 else 0) + ins.opbytes.length
        + (if ins.modrm.isSome then 1 else 0) + (if ins.sib.isSome then 1 else 0)
        + (ins.disp.map fun d => d.width.bytes).getD 0
        + (ins.operands.map fun o => (operandBytes ins.immReadWidth o).length).sum
      ∧ p = start + ins.length ∧ p ≤ buf.len ∧ buf.mem.bytesAt start ins.length = ins.bytes

/-- An Instruction depends on its own bytes only: wherever in whatever buffer those bytes stand, the same mode decodes them to the same
Instruction and stops just after them (10_state.md R48, R51, 20_memory.md R72, 30_encoding.md R113). -/
def Obligations.OwnBytesDecodeToTheSameInstruction : Prop :=
  ∀ (buf : Buffer) (start : Nat) (mode : CpuMode) (ins : Instruction) (p : Nat),
    Txn.decodeOne buf start mode = .instruction ins p →
    ∀ (buf' : Buffer) (start' : Nat), start' + ins.length ≤ buf'.len →
      buf'.mem.bytesAt start' ins.length = buf.mem.bytesAt start ins.length →
      Txn.decodeOne buf' start' mode = .instruction ins (start' + ins.length)

/-- What every decoded Instruction records: the mode it was decoded in, the size eos for every row, at most three prefixes and four
operands, REX only in 64-bit mode, only signed immediates, with REX.W = 1 the size 64 whatever the prefixes, and a length of 1 to 15
bytes, both of which occur (10_state.md R33, R34, R45, R46, 30_encoding.md R115, 40_decode_pipeline.md R147, R156). -/
def Obligations.DecodedInstructionsAreWellFormed : Prop :=
  (∀ (buf : Buffer) (start : Nat) (mode : CpuMode) (ins : Instruction) (p : Nat),
      Txn.decodeOne buf start mode = .instruction ins p →
      ins.Wf ∧ ins.mode = mode ∧ 1 ≤ ins.length ∧ ins.length ≤ 15 ∧ (rexBit Rex.w ins.rex = true → ins.opsize = .o64))
    ∧ (∃ ins, Txn.decodeOne (Buffer.ofBytes [0x90]) 0 .m32 = .instruction ins 1 ∧ ins.length = 1)
    ∧ ∃ ins, Txn.decodeOne
        (Buffer.ofBytes [0x66, 0x26, 0xF0, 0x48, 0x81, 0x84, 0x24, 0x11, 0x22, 0x33, 0x44, 0x55, 0x66, 0x77, 0x88]) 0 .m64
        = .instruction ins 15 ∧ ins.length = 15

/-- What reset leaves: every transient field at its initial value, no byte consumed (70_reset_and_hazards.md R450); the buffer, the mode
and the position are the model's own values (log 6, log 7). -/
def Obligations.ResetLeavesTheInitialTransaction : Prop :=
  State.reset.tx.prefixes = [] ∧ State.reset.tx.rex = none ∧ State.reset.tx.opbytes = [] ∧ State.reset.tx.entry = none
    ∧ State.reset.tx.modrm = none ∧ State.reset.tx.sib = none ∧ State.reset.tx.disp = none ∧ State.reset.tx.eos = none
    ∧ State.reset.tx.eas = none ∧ State.reset.tx.ops = [] ∧ State.reset.tx.stage = .awaitingOpcode
    ∧ State.reset.tx.start = State.reset.pos ∧ State.reset.results = [] ∧ State.reset.atStart = true

end
end

