-- ==== Sys2Proof/Laws/Memory.lean ====
section
/-! SUPPORT. The laws of memory and of the buffer: read after write, the canonical form, bytes in a row, little-endian values. -/

namespace Sys2Proof.Machine

/-! ## Read after write -/

theorem Memory.wfFrom_mono {m : Memory} : ∀ {lo lo' : Nat}, lo' ≤ lo → Memory.wfFrom lo m = true → Memory.wfFrom lo' m = true := by
  cases m with
  | nil => intros; rfl
  | cons c rest =>
    intro lo lo' h hw
    simp only [Memory.wfFrom, Bool.and_eq_true, decide_eq_true_eq] at hw ⊢
    exact ⟨⟨Nat.le_trans h hw.1.1, hw.1.2⟩, hw.2⟩

/-- Below the first listed offset everything reads as unlisted. -/
theorem Memory.read_below {m : Memory} : ∀ {lo a : Nat}, Memory.wfFrom lo m = true → a < lo → m.read a = Memory.unlisted := by
  induction m with
  | nil => intros; rfl
  | cons c rest ih =>
    intro lo a hw ha
    simp only [Memory.wfFrom, Bool.and_eq_true, decide_eq_true_eq] at hw
    have hne : c.1 ≠ a := by omega
    simp only [Memory.read, hne, if_false]
    exact ih hw.2 (by omega)

theorem Memory.read_write_same {m : Memory} : ∀ {lo : Nat}, Memory.wfFrom lo m = true → ∀ (a : Nat) (b : Byte),
    (m.write a b).read a = b := by
  induction m with
  | nil =>
    intro lo _ a b
    by_cases hb : b = Memory.unlisted <;> simp [Memory.write, Memory.read, hb]
  | cons c rest ih =>
    intro lo hw a b
    simp only [Memory.wfFrom, Bool.and_eq_true, decide_eq_true_eq] at hw
    by_cases hk : c.1 = a
    · by_cases hb : b = Memory.unlisted
      · simp only [Memory.write, hk, hb, if_true]
        exact Memory.read_below hw.2 (by omega)
      · simp [Memory.write, Memory.read, hk, hb]
    · by_cases hlt : a < c.1
      · by_cases hb : b = Memory.unlisted
        · simp only [Memory.write, hk, hlt, hb, if_true, if_false, Memory.read]
          exact Memory.read_below hw.2 (by omega)
        · simp [Memory.write, Memory.read, hk, hlt, hb]
      · simp only [Memory.write, Memory.read, hk, hlt, if_false]
        exact ih hw.2 a b

theorem Memory.read_write_other {m : Memory} (a a' : Nat) (b : Byte) (h : a' ≠ a) :
    (m.write a b).read a' = m.read a' := by
  induction m with
  | nil => by_cases hb : b = Memory.unlisted <;> simp [Memory.write, Memory.read, hb, Ne.symm h]
  | cons c rest ih =>
    obtain ⟨k, v⟩ := c
    by_cases hk : k = a
    · subst hk
      by_cases hb : b = Memory.unlisted <;> simp [Memory.write, Memory.read, hb, Ne.symm h]
    · by_cases hlt : a < k
      · by_cases hb : b = Memory.unlisted <;> simp [Memory.write, Memory.read, hk, hlt, hb, Ne.symm h]
      · simp only [Memory.write, hk, hlt, if_false, Memory.read]
        rw [ih]

/-! ## The canonical form -/

theorem Memory.wfFrom_write {m : Memory} : ∀ {lo a : Nat} (b : Byte), Memory.wfFrom lo m = true → lo ≤ a →
    Memory.wfFrom lo (m.write a b) = true := by
  induction m with
  | nil =>
    intro lo a b _ ha
    by_cases hb : b = Memory.unlisted <;> simp [Memory.write, Memory.wfFrom, hb, ha]
  | cons c rest ih =>
    obtain ⟨k, v⟩ := c
    intro lo a b hw ha
    simp only [Memory.wfFrom, Bool.and_eq_true, decide_eq_true_eq] at hw
    by_cases hk : k = a
    · subst hk
      by_cases hb : b = Memory.unlisted
      · simp only [Memory.write, hb, if_true]
        exact Memory.wfFrom_mono (by omega) hw.2
      · simp [Memory.write, Memory.wfFrom, hb, ha, hw.2]
    · by_cases hlt : a < k
      · by_cases hb : b = Memory.unlisted
        · simp [Memory.write, Memory.wfFrom, hk, hlt, hb, hw.1.1, hw.1.2, hw.2]
        · have h1 : a + 1 ≤ k := hlt
          simp [Memory.write, Memory.wfFrom, hk, hlt, hb, ha, h1, hw.1.2, hw.2]
      · have := ih b hw.2 (show k + 1 ≤ a by omega)
        simp [Memory.write, Memory.wfFrom, hk, hlt, hw.1.1, hw.1.2, this]

theorem Memory.wf_write {m : Memory} (a : Nat) (b : Byte) (h : m.wf = true) : (m.write a b).wf = true :=
  Memory.wfFrom_write b h (Nat.zero_le a)

theorem Memory.wf_writeBytes (bs : List Byte) : ∀ {m : Memory} (a : Nat), m.wf = true → (m.writeBytes a bs).wf = true := by
  induction bs with
  | nil => intro m a h; exact h
  | cons b bs ih => intro m a h; exact ih (a + 1) (Memory.wf_write a b h)

theorem State.reset_mem_wf : Memory.wf State.reset.buf.mem = true := rfl

/-- A write lists no new offset but its own. -/
theorem Memory.mem_write {m : Memory} {a : Nat} {b : Byte} {c : Host.Cell} (h : c ∈ m.write a b) : c.1 = a ∨ c ∈ m := by
  induction m with
  | nil =>
    by_cases hb : b = Memory.unlisted
    · simp [Memory.write, hb] at h
    · simp [Memory.write, hb] at h; exact .inl (by rw [h])
  | cons d rest ih =>
    obtain ⟨k, v⟩ := d
    simp only [Memory.write] at h
    split at h
    · split at h
      · exact .inr (List.mem_cons_of_mem _ h)
      · rcases List.mem_cons.mp h with rfl | h
        · exact .inl rfl
        · exact .inr (List.mem_cons_of_mem _ h)
    · split at h
      · split at h
        · exact .inr h
        · rcases List.mem_cons.mp h with rfl | h
          · exact .inl rfl
          · exact .inr h
      · rcases List.mem_cons.mp h with rfl | h
        · exact .inr List.mem_cons_self
        · rcases ih h with h | h
          · exact .inl h
          · exact .inr (List.mem_cons_of_mem _ h)

/-! ## Bytes in a row -/

@[simp] theorem Memory.bytesAt_zero (m : Memory) (a : Nat) : m.bytesAt a 0 = [] := rfl

theorem Memory.bytesAt_succ (m : Memory) (a n : Nat) : m.bytesAt a (n + 1) = m.read a :: m.bytesAt (a + 1) n := rfl

@[simp] theorem Memory.bytesAt_length (m : Memory) : ∀ (n a : Nat), (m.bytesAt a n).length = n
  | 0, _ => rfl
  | n + 1, a => by simp [Memory.bytesAt, Memory.bytesAt_length m n (a + 1)]

theorem Memory.bytesAt_add (m : Memory) : ∀ (k n a : Nat), m.bytesAt a (k + n) = m.bytesAt a k ++ m.bytesAt (a + k) n
  | 0, n, a => by simp
  | k + 1, n, a => by
    have h : k + 1 + n = (k + n) + 1 := by omega
    rw [h, Memory.bytesAt_succ, Memory.bytesAt_add m k n (a + 1), Memory.bytesAt_succ]
    have h2 : a + 1 + k = a + (k + 1) := by omega
    rw [h2]; rfl

theorem Memory.bytesAt_write_other {m : Memory} {a : Nat} (b : Byte) : ∀ (n : Nat) (lo : Nat), (a < lo ∨ lo + n ≤ a) →
    (m.write a b).bytesAt lo n = m.bytesAt lo n
  | 0, _, _ => rfl
  | n + 1, lo, h => by
    rw [Memory.bytesAt_succ, Memory.bytesAt_succ, Memory.read_write_other a lo b (by omega),
      Memory.bytesAt_write_other b n (lo + 1) (by omega)]

theorem Memory.bytesAt_writeBytes_below (bs : List Byte) : ∀ {m : Memory} (a n lo : Nat), lo + n ≤ a →
    (m.writeBytes a bs).bytesAt lo n = m.bytesAt lo n := by
  induction bs with
  | nil => intros; rfl
  | cons b bs ih =>
    intro m a n lo h
    show ((m.write a b).writeBytes (a + 1) bs).bytesAt lo n = _
    rw [ih (a + 1) n lo (by omega), Memory.bytesAt_write_other b n lo (by omega)]

theorem Memory.bytesAt_writeBytes (bs : List Byte) : ∀ {m : Memory} (a : Nat), m.wf = true →
    (m.writeBytes a bs).bytesAt a bs.length = bs := by
  induction bs with
  | nil => intros; rfl
  | cons b bs ih =>
    intro m a h
    show ((m.write a b).writeBytes (a + 1) bs).bytesAt a (bs.length + 1) = b :: bs
    rw [Memory.bytesAt_succ, ih (a + 1) (Memory.wf_write a b h)]
    have h1 : ((m.write a b).writeBytes (a + 1) bs).bytesAt a 1 = (m.write a b).bytesAt a 1 :=
      Memory.bytesAt_writeBytes_below bs (a + 1) 1 a (by omega)
    have h2 : ((m.write a b).writeBytes (a + 1) bs).read a = (m.write a b).read a := by
      simpa [Memory.bytesAt] using h1
    rw [h2, Memory.read_write_same h]

theorem Memory.wf_nil : Memory.wf [] = true := rfl

@[simp] theorem Buffer.ofBytes_len (bs : List Byte) : (Buffer.ofBytes bs).len = bs.length := rfl

theorem Buffer.ofBytes_bytesAt (bs : List Byte) : (Buffer.ofBytes bs).mem.bytesAt 0 bs.length = bs :=
  Memory.bytesAt_writeBytes bs 0 Memory.wf_nil

/-! ## The buffer -/

theorem Buffer.byte?_eq_some {b : Buffer} {p : Nat} {v : Byte} : b.byte? p = some v ↔ p < b.len ∧ b.mem.read p = v := by
  unfold Buffer.byte?; split <;> simp_all

theorem Buffer.byte?_eq_none {b : Buffer} {p : Nat} : b.byte? p = none ↔ b.len ≤ p := by
  unfold Buffer.byte?; split <;> simp_all

theorem Buffer.value?_eq_some {b : Buffer} {p n v : Nat} :
    b.value? p n = some v ↔ p + n ≤ b.len ∧ leValue (b.mem.bytesAt p n) = v := by
  unfold Buffer.value?; split <;> simp_all

theorem Buffer.value?_eq_none {b : Buffer} {p n : Nat} : b.value? p n = none ↔ b.len < p + n := by
  unfold Buffer.value?; split <;> simp_all

/-! ## Little-endian values -/

theorem leValue_lt : ∀ bs : List Byte, leValue bs < 256 ^ bs.length
  | [] => by simp [leValue]
  | b :: bs => by
    have h1 := leValue_lt bs
    have h2 := b.isLt
    simp only [leValue, List.length_cons, Nat.pow_succ]
    omega

theorem bytesOfNat_leValue : ∀ bs : List Byte, bytesOfNat bs.length (leValue bs) = bs
  | [] => rfl
  | b :: bs => by
    have h2 := b.isLt
    simp only [leValue, List.length_cons, bytesOfNat]
    have h3 : (b.toNat + 256 * leValue bs) / 256 = leValue bs := by omega
    rw [h3, bytesOfNat_leValue bs]
    congr 1
    apply BitVec.eq_of_toNat_eq
    simp [BitVec.toNat_ofNat]
    omega

theorem bytesOfNat_length : ∀ (n w : Nat), (bytesOfNat n w).length = n
  | 0, _ => rfl
  | n + 1, w => by simp [bytesOfNat, bytesOfNat_length n]

/-- The low bytes of a number depend on it modulo their power of 256 only. -/
theorem bytesOfNat_mod : ∀ (n w : Nat), bytesOfNat n (w % 256 ^ n) = bytesOfNat n w
  | 0, _ => rfl
  | n + 1, w => by
    have h1 : w % 256 ^ (n + 1) / 256 = w / 256 % 256 ^ n := by
      rw [Nat.pow_succ, Nat.mul_comm (256 ^ n) 256, Nat.mod_mul_right_div_self]
    have h2 : w % 256 ^ (n + 1) % 256 = w % 256 :=
      Nat.mod_mod_of_dvd w (Dvd.intro_left (256 ^ n) rfl)
    simp only [bytesOfNat]
    rw [h1, bytesOfNat_mod n (w / 256)]
    congr 1
    apply BitVec.eq_of_toNat_eq
    simp [h2]

end Sys2Proof.Machine
end

