-- ==== Sys2Proof/Laws/State.lean ====
section
/-! SUPPORT. One lemma per field per update of the state, so that no proof unfolds a record update. -/

namespace Sys2Proof.Machine.State

variable (s : State)

@[simp] theorem advance_buf (n : Nat) : (s.advance n).buf = s.buf := rfl
@[simp] theorem advance_mode (n : Nat) : (s.advance n).mode = s.mode := rfl
@[simp] theorem advance_pos (n : Nat) : (s.advance n).pos = s.pos + n := rfl
@[simp] theorem advance_tx (n : Nat) : (s.advance n).tx = s.tx := rfl
@[simp] theorem advance_results (n : Nat) : (s.advance n).results = s.results := rfl
@[simp] theorem advance_calls (n : Nat) : (s.advance n).calls = s.calls := rfl

@[simp] theorem withTx_buf (t : Transient) : (s.withTx t).buf = s.buf := rfl
@[simp] theorem withTx_mode (t : Transient) : (s.withTx t).mode = s.mode := rfl
@[simp] theorem withTx_pos (t : Transient) : (s.withTx t).pos = s.pos := rfl
@[simp] theorem withTx_tx (t : Transient) : (s.withTx t).tx = t := rfl
@[simp] theorem withTx_results (t : Transient) : (s.withTx t).results = s.results := rfl
@[simp] theorem withTx_calls (t : Transient) : (s.withTx t).calls = s.calls := rfl

@[simp] theorem pushPrefix_buf (p : Prefix) : (s.pushPrefix p).buf = s.buf := rfl
@[simp] theorem pushPrefix_mode (p : Prefix) : (s.pushPrefix p).mode = s.mode := rfl
@[simp] theorem pushPrefix_pos (p : Prefix) : (s.pushPrefix p).pos = s.pos := rfl
@[simp] theorem pushPrefix_tx (p : Prefix) : (s.pushPrefix p).tx = { s.tx with prefixes := s.tx.prefixes ++ [p] } := rfl
@[simp] theorem pushPrefix_results (p : Prefix) : (s.pushPrefix p).results = s.results := rfl
@[simp] theorem pushPrefix_calls (p : Prefix) : (s.pushPrefix p).calls = s.calls := rfl

@[simp] theorem setRex_buf (r : Rex) : (s.setRex r).buf = s.buf := rfl
@[simp] theorem setRex_mode (r : Rex) : (s.setRex r).mode = s.mode := rfl
@[simp] theorem setRex_pos (r : Rex) : (s.setRex r).pos = s.pos := rfl
@[simp] theorem setRex_tx (r : Rex) : (s.setRex r).tx = { s.tx with rex := some r, stage := .haveRex } := rfl
@[simp] theorem setRex_results (r : Rex) : (s.setRex r).results = s.results := rfl
@[simp] theorem setRex_calls (r : Rex) : (s.setRex r).calls = s.calls := rfl

@[simp] theorem setEntry_buf (ob : List Byte) (e : Entry) : (s.setEntry ob e).buf = s.buf := rfl
@[simp] theorem setEntry_mode (ob : List Byte) (e : Entry) : (s.setEntry ob e).mode = s.mode := rfl
@[simp] theorem setEntry_pos (ob : List Byte) (e : Entry) : (s.setEntry ob e).pos = s.pos := rfl
@[simp] theorem setEntry_tx (ob : List Byte) (e : Entry) : (s.setEntry ob e).tx = { s.tx with stage := .haveOpcode, opbytes := ob, entry := some e, modrm := none, sib := none, disp := none, ops := [] } := rfl
@[simp] theorem setEntry_results (ob : List Byte) (e : Entry) : (s.setEntry ob e).results = s.results := rfl
@[simp] theorem setEntry_calls (ob : List Byte) (e : Entry) : (s.setEntry ob e).calls = s.calls := rfl

@[simp] theorem setModRM_buf (m : ModRM) : (s.setModRM m).buf = s.buf := rfl
@[simp] theorem setModRM_mode (m : ModRM) : (s.setModRM m).mode = s.mode := rfl
@[simp] theorem setModRM_pos (m : ModRM) : (s.setModRM m).pos = s.pos := rfl
@[simp] theorem setModRM_tx (m : ModRM) : (s.setModRM m).tx = { s.tx with modrm := some m } := rfl
@[simp] theorem setModRM_results (m : ModRM) : (s.setModRM m).results = s.results := rfl
@[simp] theorem setModRM_calls (m : ModRM) : (s.setModRM m).calls = s.calls := rfl

@[simp] theorem setSib_buf (x : Sib) : (s.setSib x).buf = s.buf := rfl
@[simp] theorem setSib_mode (x : Sib) : (s.setSib x).mode = s.mode := rfl
@[simp] theorem setSib_pos (x : Sib) : (s.setSib x).pos = s.pos := rfl
@[simp] theorem setSib_tx (x : Sib) : (s.setSib x).tx = { s.tx with sib := some x } := rfl
@[simp] theorem setSib_results (x : Sib) : (s.setSib x).results = s.results := rfl
@[simp] theorem setSib_calls (x : Sib) : (s.setSib x).calls = s.calls := rfl

@[simp] theorem setDisp_buf (d : Displacement) : (s.setDisp d).buf = s.buf := rfl
@[simp] theorem setDisp_mode (d : Displacement) : (s.setDisp d).mode = s.mode := rfl
@[simp] theorem setDisp_pos (d : Displacement) : (s.setDisp d).pos = s.pos := rfl
@[simp] theorem setDisp_tx (d : Displacement) : (s.setDisp d).tx = { s.tx with disp := some d } := rfl
@[simp] theorem setDisp_results (d : Displacement) : (s.setDisp d).results = s.results := rfl
@[simp] theorem setDisp_calls (d : Displacement) : (s.setDisp d).calls = s.calls := rfl

@[simp] theorem setStage_buf (g : Stage) : (s.setStage g).buf = s.buf := rfl
@[simp] theorem setStage_mode (g : Stage) : (s.setStage g).mode = s.mode := rfl
@[simp] theorem setStage_pos (g : Stage) : (s.setStage g).pos = s.pos := rfl
@[simp] theorem setStage_tx (g : Stage) : (s.setStage g).tx = { s.tx with stage := g } := rfl
@[simp] theorem setStage_results (g : Stage) : (s.setStage g).results = s.results := rfl
@[simp] theorem setStage_calls (g : Stage) : (s.setStage g).calls = s.calls := rfl

@[simp] theorem setSizes_buf (eo : OperandSize) (ea : AddrSize) : (s.setSizes eo ea).buf = s.buf := rfl
@[simp] theorem setSizes_mode (eo : OperandSize) (ea : AddrSize) : (s.setSizes eo ea).mode = s.mode := rfl
@[simp] theorem setSizes_pos (eo : OperandSize) (ea : AddrSize) : (s.setSizes eo ea).pos = s.pos := rfl
@[simp] theorem setSizes_tx (eo : OperandSize) (ea : AddrSize) : (s.setSizes eo ea).tx = { s.tx with stage := .resolving, eos := some eo, eas := some ea } := rfl
@[simp] theorem setSizes_results (eo : OperandSize) (ea : AddrSize) : (s.setSizes eo ea).results = s.results := rfl
@[simp] theorem setSizes_calls (eo : OperandSize) (ea : AddrSize) : (s.setSizes eo ea).calls = s.calls := rfl

@[simp] theorem pushOp_buf (o : ResolvedOperand) : (s.pushOp o).buf = s.buf := rfl
@[simp] theorem pushOp_mode (o : ResolvedOperand) : (s.pushOp o).mode = s.mode := rfl
@[simp] theorem pushOp_pos (o : ResolvedOperand) : (s.pushOp o).pos = s.pos := rfl
@[simp] theorem pushOp_tx (o : ResolvedOperand) : (s.pushOp o).tx = { s.tx with ops := s.tx.ops ++ [o] } := rfl
@[simp] theorem pushOp_results (o : ResolvedOperand) : (s.pushOp o).results = s.results := rfl
@[simp] theorem pushOp_calls (o : ResolvedOperand) : (s.pushOp o).calls = s.calls := rfl

@[simp] theorem endWith_buf (r : Result) : (s.endWith r).buf = s.buf := rfl
@[simp] theorem endWith_mode (r : Result) : (s.endWith r).mode = s.mode := rfl
@[simp] theorem endWith_pos (r : Result) : (s.endWith r).pos = s.pos := rfl
@[simp] theorem endWith_tx (r : Result) : (s.endWith r).tx = Transient.init s.pos := rfl
@[simp] theorem endWith_results (r : Result) : (s.endWith r).results = r :: s.results := rfl
@[simp] theorem endWith_calls (r : Result) : (s.endWith r).calls = s.calls := rfl

@[simp] theorem returned_buf (ins : Instruction) (p : Nat) : (s.returned ins p).buf = s.buf := rfl
@[simp] theorem returned_mode (ins : Instruction) (p : Nat) : (s.returned ins p).mode = s.mode := rfl
@[simp] theorem returned_pos (ins : Instruction) (p : Nat) : (s.returned ins p).pos = p := rfl
@[simp] theorem returned_tx (ins : Instruction) (p : Nat) : (s.returned ins p).tx = Transient.init p := rfl
@[simp] theorem returned_results (ins : Instruction) (p : Nat) : (s.returned ins p).results = .instruction ins p :: s.results := rfl
@[simp] theorem returned_calls (ins : Instruction) (p : Nat) : (s.returned ins p).calls = s.calls := rfl

@[simp] theorem failed_buf (e : DecodeError) (p : Nat) : (s.failed e p).buf = s.buf := rfl
@[simp] theorem failed_mode (e : DecodeError) (p : Nat) : (s.failed e p).mode = s.mode := rfl
@[simp] theorem failed_pos (e : DecodeError) (p : Nat) : (s.failed e p).pos = p := rfl
@[simp] theorem failed_tx (e : DecodeError) (p : Nat) : (s.failed e p).tx = Transient.init p := rfl
@[simp] theorem failed_results (e : DecodeError) (p : Nat) : (s.failed e p).results = .error e p :: s.results := rfl
@[simp] theorem failed_calls (e : DecodeError) (p : Nat) : (s.failed e p).calls = s.calls := rfl

@[simp] theorem raiseError_eq (e : DecodeError) : raiseError e s = s.failed e s.pos := rfl
@[simp] theorem returnInstruction_eq (ins : Instruction) : returnInstruction ins s = s.returned ins s.pos := rfl
@[simp] theorem ended_ok (ins : Instruction) (p : Nat) : s.ended (.ok ins p) = s.returned ins p := rfl
@[simp] theorem ended_raise (e : DecodeError) (p : Nat) : s.ended (.raise e p) = s.failed e p := rfl

end Sys2Proof.Machine.State
end

