-- ==== Sys2Proof/Laws/Pipeline.lean ====
section
/-! SUPPORT. What each shared operation of the pipeline can do: it follows the part of `Txn.decodeOne` of the same name, value for value and error for error. -/

namespace Sys2Proof.Machine

/-- The state s with the cursor at p and the transient state t: the form of every state a pipeline reaches from s. -/
def State.goto (s : State) (p : Nat) (t : Transient) : State := { s with pos := p, tx := t }

namespace State

variable (s : State) (p : Nat) (t : Transient)

@[simp] theorem goto_buf : (s.goto p t).buf = s.buf := rfl
@[simp] theorem goto_mode : (s.goto p t).mode = s.mode := rfl
@[simp] theorem goto_pos : (s.goto p t).pos = p := rfl
@[simp] theorem goto_tx : (s.goto p t).tx = t := rfl
@[simp] theorem goto_results : (s.goto p t).results = s.results := rfl
@[simp] theorem goto_calls : (s.goto p t).calls = s.calls := rfl
@[simp] theorem goto_self : s.goto s.pos s.tx = s := rfl
@[simp] theorem goto_goto (q : Nat) (u : Transient) : (s.goto p t).goto q u = s.goto q u := rfl
@[simp] theorem goto_advance (n : Nat) : (s.goto p t).advance n = s.goto (p + n) t := rfl
@[simp] theorem goto_withTx (u : Transient) : (s.goto p t).withTx u = s.goto p u := rfl
@[simp] theorem goto_failed (e : DecodeError) (q : Nat) : (s.goto p t).failed e q = s.failed e q := rfl
@[simp] theorem goto_returned (i : Instruction) (q : Nat) : (s.goto p t).returned i q = s.returned i q := rfl

end State

/-- A stage x of the pipeline, run from a state of s, follows a part g of `decode_one`: where g gives a value, x gives one related
to it by R; where g raises an error at a position, x raises the same error there. -/
def Follows {α β : Type} (s : State) (R : α → State → β → Nat → Prop) (x : Flow α) (g : Txn.Got β) : Prop :=
  match x, g with
  | .ok a s', .ok b p => R a s' b p
  | .raise e s', .raise e' p => e = e' ∧ raiseError e s' = s.failed e p
  | _, _ => False

theorem Follows.bind {α β γ δ : Type} {s : State} {R : α → State → β → Nat → Prop} {Q : γ → State → δ → Nat → Prop}
    {x : Flow α} {g : Txn.Got β} {k : α → State → Flow γ} {h : β → Nat → Txn.Got δ}
    (hx : Follows s R x g) (hk : ∀ a s' b p, R a s' b p → Follows s Q (k a s') (h b p)) :
    Follows s Q (x.bind k) (g.bind h) := by
  cases x <;> cases g <;> first | exact hk _ _ _ _ hx | exact hx | exact hx.elim

theorem Follows.mono {α β : Type} {s : State} {R Q : α → State → β → Nat → Prop} {x : Flow α} {g : Txn.Got β}
    (hx : Follows s R x g) (h : ∀ a s' b p, R a s' b p → Q a s' b p) : Follows s Q x g := by
  cases x <;> cases g <;> first | exact h _ _ _ _ hx | exact hx

@[simp] theorem Flow.ok_bind {α β : Type} (a : α) (s : State) (k : α → State → Flow β) : (Flow.ok a s).bind k = k a s := rfl

@[simp] theorem Flow.raise_bind {α β : Type} (e : DecodeError) (s : State) (k : α → State → Flow β) :
    (Flow.raise e s).bind k = .raise e s := rfl

@[simp] theorem readable_some {α : Type} (f : TxField) (a : α) (s : State) : readable f (some a) s = .ok a s := rfl

/-- A stage that reads only: the value is the same and the cursor stands at the same place. -/
def Reads (s : State) (t : Transient) {α : Type} (a : α) (s' : State) (b : α) (p : Nat) : Prop := a = b ∧ s' = s.goto p t

/-! ## The cursor -/

theorem follows_read8 (s : State) (p : Nat) (t : Transient) :
    Follows s (Reads s t) (read8 (s.goto p t)) (Txn.read8 s.buf p) := by
  simp only [read8, Txn.read8, State.goto_buf, State.goto_pos]
  cases s.buf.byte? p
  · exact ⟨rfl, rfl⟩
  · exact ⟨rfl, rfl⟩

theorem follows_readSized (s : State) (p : Nat) (t : Transient) (w : Width) :
    Follows s (Reads s t) (readSized w (s.goto p t)) (Txn.readSized s.buf w p) := by
  simp only [readSized, readN, Txn.readSized, State.goto_buf, State.goto_pos]
  cases s.buf.value? p w.bytes
  · exact ⟨rfl, rfl⟩
  · exact ⟨rfl, rfl⟩

/-! ## ModR/M, SIB, displacement -/

theorem follows_sibStage (s : State) (p : Nat) (t : Transient) (m : ModRM) (ht : t.sib = none) :
    Follows s (fun a s' b q => a = b ∧ s' = s.goto q { t with sib := b })
      (sibStage m (s.goto p t)) (Txn.readSib s.buf s.mode t.rex m p) := by
  have hid : ({ t with sib := none } : Transient) = t := by rw [← ht]
  unfold sibStage Txn.readSib
  cases hf : m.form <;> simp only [reduceCtorEq, if_false, if_true] <;>
    first
    | exact ⟨rfl, by rw [hid]⟩
    | skip
  refine (follows_read8 s p t).bind ?_
  rintro b s' _ q ⟨rfl, rfl⟩
  exact ⟨rfl, rfl⟩

theorem follows_dispStage (s : State) (p : Nat) (t : Transient) (m : ModRM) (x : Option Sib) (ht : t.disp = none) :
    Follows s (fun _ s' b q => s' = s.goto q { t with disp := b })
      (dispStage m x (s.goto p t)) (Txn.readDisp s.buf m x p) := by
  have hid : ({ t with disp := none } : Transient) = t := by rw [← ht]
  unfold dispStage Txn.readDisp
  cases dispWidth m x with
  | none => exact congrArg (s.goto p) hid.symm
  | some w =>
    refine (follows_readSized s p t w).bind ?_
    rintro d s' _ q ⟨rfl, rfl⟩
    exact rfl

/-- The ModR/M stage reads what `Txn.addressing` reads, for each of the four encodings that have one. -/
theorem follows_modrmStage (s : State) (p : Nat) (t : Transient) (enc : Encoding) (he : enc.hasModRM = true)
    (h1 : t.sib = none) (h2 : t.disp = none) :
    Follows s
      (fun _ s' a q => s' = s.goto q { t with modrm := a.modrm, sib := a.sib, disp := a.disp, stage := .haveModRM }
        ∧ ∃ b, a.modrm = some (decodeModRM b s.mode t.rex))
      (modrmStage (s.goto p t)) (Txn.addressing s.buf s.mode t.rex enc p) := by
  have hc : enc = .M ∨ enc = .MI ∨ enc = .MR ∨ enc = .RM := by cases enc <;> simp_all [Encoding.hasModRM]
  unfold modrmStage Txn.addressing
  rw [if_pos hc]
  refine (follows_read8 s p t).bind ?_
  rintro b s' _ q ⟨rfl, rfl⟩
  refine (follows_sibStage s q { t with modrm := some (decodeModRM b s.mode t.rex) } _ h1).bind ?_
  rintro x s' _ q ⟨rfl, rfl⟩
  refine (follows_dispStage s q { t with modrm := some (decodeModRM b s.mode t.rex), sib := x } (decodeModRM b s.mode t.rex) x h2).bind ?_
  rintro _ s' d q rfl
  exact ⟨rfl, b, rfl⟩

/-! ## Operands -/

/-- A register number a REX bit extends has a name, so `noSuchRegister` is not raised (10_state.md R27). -/
theorem regName_extend (mode : CpuMode) (field : Rex → Bool) (rex : Option Rex) (n : BitVec 3) (w : Width) :
    regName (extend mode (rexBit field rex) n) w rex.isSome
      = some (namedReg (extend mode (rexBit field rex) n) w rex.isSome) := by
  cases rex with
  | none =>
    show regName (extend mode false n) w false = some (namedReg (extend mode false n) w false)
    cases mode <;> cases w <;> revert n <;> decide
  | some r => cases w <;> rfl

/-- What the transient state and the values `Txn` resolves templates from have in common. -/
structure Prepared (s : State) (t : Transient) (r : Txn.Ready) : Prop where
  mode : r.mode = s.mode
  rex : r.rex = t.rex
  opbyte : t.opbytes.head? = some r.opbyte
  modrm : t.modrm = r.addr.modrm
  sib : t.sib = r.addr.sib
  disp : t.disp = r.addr.disp
  eos : t.eos = some r.eos
  eas : t.eas = some r.eas
  decoded : ∀ m, r.addr.modrm = some m → ∃ b, m = decodeModRM b s.mode t.rex

theorem regOperand_extend (s : State) (t : Transient) (p : Nat) (field : Rex → Bool) (n : BitVec 3) (w : Width) :
    regOperand (extend s.mode (rexBit field t.rex) n) w (s.goto p t)
      = .ok (.reg (namedReg (extend s.mode (rexBit field t.rex) n) w t.rex.isSome) w) (s.goto p t) := by
  simp only [regOperand, State.goto_tx, regName_extend]

theorem addrForm_direct {mode : CpuMode} {mod : BitVec 2} {rm3 : BitVec 3} {rm q : BitVec 4}
    (h : addrForm mode mod rm3 rm = .direct q) : q = rm := by
  unfold addrForm at h
  split at h
  · exact (AddrForm.direct.inj h).symm
  · split at h
    · split at h <;> cases h
    · split at h
      · cases h
      · split at h <;> cases h

theorem directRegister_decodeModRM {b : Byte} {mode : CpuMode} {rex : Option Rex} {q : BitVec 4}
    (h : directRegister (decodeModRM b mode rex) = some q) : q = extend mode (rexBit Rex.b rex) (rm3Of b) := by
  unfold directRegister at h
  split at h <;> cases h
  exact addrForm_direct ‹_›

theorem follows_resolveRM (s : State) (t : Transient) (r : Txn.Ready) (hp : Prepared s t r) (c : SizeClass) (p : Nat) (m : ModRM)
    (hm : r.addr.modrm = some m) :
    Follows s (Reads s t) (resolveRM c (s.goto p t)) (Txn.resolveRM r m c p) := by
  obtain ⟨b, hb⟩ := hp.decoded m hm
  simp only [resolveRM, needModRM, State.goto_tx, State.goto_mode, hp.modrm, hm, Flow.ok_bind, readable_some, hp.eos, hp.eas, hp.sib,
    hp.disp, Txn.resolveRM, hp.mode, hp.rex]
  cases hd : directRegister m with
  | some q =>
    subst hb
    obtain rfl := directRegister_decodeModRM hd
    simp only [regOperand_extend]
    exact ⟨rfl, rfl⟩
  | none =>
    cases memDescriptor s.mode r.eas m r.addr.sib r.addr.disp <;> cases legalAddrSize s.mode r.eas <;>
      exact ⟨rfl, rfl⟩

theorem follows_resolve (s : State) (t : Transient) (r : Txn.Ready) (hp : Prepared s t r) (T : Template) (p : Nat) :
    Follows s (Reads s t) (resolve T (s.goto p t)) (Txn.resolve s.buf r t.ops T p) := by
  cases T with
  | E c | M c =>
    unfold resolve Txn.resolve
    cases hm : r.addr.modrm with
    | some m => exact follows_resolveRM s t r hp c p m hm
    | none =>
      simp only [resolveRM, needModRM, State.goto_tx, hp.modrm, hm, Flow.raise_bind]
      exact ⟨rfl, rfl⟩
  | G c =>
    unfold resolve Txn.resolve
    cases hm : r.addr.modrm with
    | some m =>
      obtain ⟨b, rfl⟩ := hp.decoded m hm
      simp only [resolveG, needModRM, State.goto_tx, hp.modrm, hm, Flow.ok_bind, readable_some, hp.eos, hp.rex]
      have := regOperand_extend s t p Rex.r (reg3Of b) (classWidth c r.eos)
      simp only [decodeModRM] at this ⊢
      rw [this]
      exact ⟨rfl, rfl⟩
    | none =>
      simp only [resolveG, needModRM, State.goto_tx, hp.modrm, hm, Flow.raise_bind]
      exact ⟨rfl, rfl⟩
  | I c =>
    simp only [resolve, Txn.resolve, resolveI, State.goto_tx, readable_some, hp.eos, Flow.ok_bind]
    refine (follows_readSized s p t _).bind ?_
    rintro v s' _ q ⟨rfl, rfl⟩
    exact ⟨rfl, rfl⟩
  | O c =>
    simp only [resolve, Txn.resolve, resolveO, State.goto_tx, State.goto_mode, readable_some, hp.eos, hp.opbyte, Flow.ok_bind, opcodeReg,
      hp.mode, hp.rex, regOperand_extend]
    exact ⟨rfl, rfl⟩
  | Fixed q => exact ⟨rfl, rfl⟩
  | Family f c =>
    simp only [resolve, Txn.resolve, resolveFamily, State.goto_tx, readable_some, hp.eos, Flow.ok_bind]
    exact ⟨rfl, rfl⟩
  | Seg q => exact ⟨rfl, rfl⟩

theorem follows_resolveAll (s : State) (r : Txn.Ready) (T : List Template) : ∀ (t : Transient) (p : Nat), Prepared s t r →
    Follows s (fun _ s' ops q => s' = s.goto q { t with ops := ops })
      (resolveAll T (s.goto p t)) (Txn.operands s.buf r T t.ops p) := by
  induction T with
  | nil => intro t p _; exact rfl
  | cons T Ts ih =>
    intro t p hp
    refine (follows_resolve s t r hp T p).bind ?_
    rintro o s' _ q ⟨rfl, rfl⟩
    exact ih { t with ops := t.ops ++ [o] } q
      ⟨hp.mode, hp.rex, hp.opbyte, hp.modrm, hp.sib, hp.disp, hp.eos, hp.eas, hp.decoded⟩

/-! ## A whole row -/

/-- What the pipeline does from HaveOpcode, once for every row: it is `Txn.fromEntry`. -/
theorem follows_fromHaveOpcode (s : State) (t : Transient) (e : Entry) (b : Byte) (p : Nat)
    (hob : t.opbytes.head? = some b) (he : t.entry = some e)
    (h0 : t.modrm = none) (h1 : t.sib = none) (h2 : t.disp = none) (h3 : t.ops = []) :
    Follows s (fun a s' b q => a = b ∧ s'.pos = q ∧ s' = s.goto s'.pos s'.tx)
      (fromHaveOpcode (s.goto p t)) (Txn.fromEntry s.buf t.start s.mode t.prefixes t.rex b t.opbytes e p) := by
  have hrest : ∀ (q : Nat) (g : Stage) (a : Txn.Addressing), (∀ m, a.modrm = some m → ∃ b, m = decodeModRM b s.mode t.rex) →
      Follows s (fun a s' b q => a = b ∧ s'.pos = q ∧ s' = s.goto s'.pos s'.tx)
        (fromHaveModRM (s.goto q { t with modrm := a.modrm, sib := a.sib, disp := a.disp, stage := g }))
        ((Txn.operands s.buf ⟨s.mode, t.rex, b, a, eosOf s.mode t.prefixes t.rex, easOf s.mode t.prefixes⟩ e.templates [] q).bind
          fun ops q => .ok ⟨s.mode, t.prefixes, t.rex, e.identity, e.encoding, t.opbytes, a.modrm, a.sib, a.disp, ops,
            eosOf s.mode t.prefixes t.rex, q - t.start⟩ q) := by
    intro q g a ha
    simp only [fromHaveModRM, fromResolving, State.setSizes, State.goto_tx, State.goto_mode, State.goto_withTx, he,
      readable_some, Flow.ok_bind, h3, List.length_nil, List.drop_zero]
    have := follows_resolveAll s ⟨s.mode, t.rex, b, a, eosOf s.mode t.prefixes t.rex, easOf s.mode t.prefixes⟩ e.templates
      { t with
        entry := some e, modrm := a.modrm, sib := a.sib, disp := a.disp, stage := .resolving
        eos := some (eosOf s.mode t.prefixes t.rex), eas := some (easOf s.mode t.prefixes), ops := [] } q
      ⟨rfl, rfl, hob, rfl, rfl, rfl, rfl, rfl, ha⟩
    refine this.bind ?_
    rintro _ s' ops q rfl
    exact ⟨rfl, rfl, rfl⟩
  simp only [fromHaveOpcode, State.goto_tx, he, readable_some, Flow.ok_bind, Txn.fromEntry]
  cases hm : e.encoding.hasModRM with
  | true =>
    refine (follows_modrmStage s p t e.encoding hm h1 h2).bind ?_
    rintro _ s' a q ⟨rfl, b', hb'⟩
    exact hrest q .haveModRM a fun m h => ⟨b', by rw [hb'] at h; exact (Option.some.inj h).symm⟩
  | false =>
    have hc : ¬ (e.encoding = .M ∨ e.encoding = .MI ∨ e.encoding = .MR ∨ e.encoding = .RM) := by
      cases h : e.encoding <;> simp_all [Encoding.hasModRM]
    have ht : t = { t with modrm := none, sib := none, disp := none, stage := t.stage } := by
      cases t; simp_all
    have := hrest p t.stage ⟨none, none, none⟩ (fun m h => by cases h)
    simp only [← ht] at this
    unfold Txn.addressing
    rw [if_neg hc]
    exact this

/-- What a row with an entry does (the Pseudocode of every row of files 42 to 47): it ends the transaction with what
`Txn.fromEntry` gives. It never faults and is never refused. -/
theorem runEntry_eq (b : Byte) (opbytes : List Byte) (identity : OpcodeIdentity) (encoding : Encoding) (templates : List Template)
    (s : State) :
    runEntry (b :: opbytes) identity encoding templates s
      = .next (s.ended (Txn.fromEntry s.buf s.tx.start s.mode s.tx.prefixes s.tx.rex b (b :: opbytes)
          ⟨identity, encoding, templates⟩ (s.pos + (b :: opbytes).length))) := by
  have h := follows_fromHaveOpcode s
    { s.tx with
      stage := .haveOpcode, opbytes := b :: opbytes, entry := some ⟨identity, encoding, templates⟩
      modrm := none, sib := none, disp := none, ops := [] }
    ⟨identity, encoding, templates⟩ b (s.pos + (b :: opbytes).length) rfl rfl rfl rfl rfl rfl
  have hs : ((s.advance (b :: opbytes).length).setEntry (b :: opbytes) ⟨identity, encoding, templates⟩)
      = s.goto (s.pos + (b :: opbytes).length)
        { s.tx with
          stage := .haveOpcode, opbytes := b :: opbytes, entry := some ⟨identity, encoding, templates⟩
          modrm := none, sib := none, disp := none, ops := [] } := rfl
  unfold runEntry
  rw [hs]
  revert h
  dsimp only
  generalize fromHaveOpcode _ = x
  generalize Txn.fromEntry _ _ _ _ _ _ _ _ _ = g
  intro h
  cases x <;> cases g <;> try exact h.elim
  · obtain ⟨rfl, rfl, h⟩ := h
    simp only [Flow.outcome, State.returnInstruction_eq, State.ended_ok]
    rw [h]; rfl
  · obtain ⟨rfl, h⟩ := h
    simp only [Flow.outcome, State.ended_raise, h]

theorem runError_eq (n : Nat) (e : DecodeError) (s : State) : runError n e s = .next (s.failed e (s.pos + n)) := rfl

end Sys2Proof.Machine
end

