-- ==== Sys2Proof/Laws/Rows.lean ====
section
/-! SUPPORT. What the meaning of each row is, in four kinds, and what one lookup at the cursor runs. -/

namespace Sys2Proof.Machine

/-! ## The four kinds of rows -/

/-- The rows with an entry: neither a prefix, REX nor an error. -/
def isEntryRow : Instr → Bool
  | .reservedFF7 | .escapePrefixOtherThanRep | .escapeNoPrefix _ | .escapeRepSecondByte _ | .escapeRepThirdByte _
  | .prefixLock | .prefixRepNE | .prefixRep | .prefixSegES | .prefixSegCS | .prefixSegSS | .prefixSegDS | .prefixSegFS
  | .prefixSegGS | .prefixOperandSizeOverride | .prefixAddressSizeOverride | .rex _ _ _ _ => false
  | _ => true

/-- The entry of a row, by the opcode arithmetic of `Txn` on the row's own encoding. -/
def rowEntry (i : Instr) : Entry :=
  match encode i with
  | [b] => Txn.plainEntry b
  | [b, m] =>
    match Txn.convertWithExt b (bits m 3 3) 0 with
    | .ok e _ => e
    | .raise _ _ => ⟨.unknown, .ZO, []⟩
  | bs => if bs = [0x0F, 0x1E, 0xFA] then ⟨.endBr64, .ZO, []⟩ else ⟨.endBr32, .ZO, []⟩

theorem rowEntry_O : (∀ r, rowEntry (.pushRv r) = ⟨.push, .O, [.O .V]⟩) ∧ (∀ r, rowEntry (.incRv r) = ⟨.inc, .O, [.O .V]⟩)
    ∧ (∀ r, rowEntry (.decRv r) = ⟨.dec, .O, [.O .V]⟩) := by decide

/-- The meaning of a row with an entry. -/
theorem exec_entry (i : Instr) (h : isEntryRow i = true) (s : State) :
    exec i s = runEntry ((encode i).take i.opLen) (rowEntry i).identity (rowEntry i).encoding (rowEntry i).templates s := by
  cases i with
  | pushRv r => rw [rowEntry_O.1]; rfl
  | incRv r => rw [rowEntry_O.2.1]; rfl
  | decRv r => rw [rowEntry_O.2.2]; rfl
  | _ => first | rfl | exact absurd h Bool.false_ne_true

/-- The kinds of rows: an entry run through the pipeline, an error, a prefix, REX. -/
inductive RowKind (i : Instr) : Prop where
  | entry (h : isEntryRow i = true)
  | error (err : List Prefix → DecodeError) (run : ∀ s, exec i s = runError i.opLen (err s.tx.prefixes) s)
      (reachable : ∀ ps, err ps ≠ .invalidModRM)
  | legacy (p : Prefix) (run : ∀ s, exec i s = runPrefix p s) (bytes : encode i = [p.byte])
  | rex (r : Rex) (run : ∀ s, exec i s = runRex r s) (bytes : encode i = [r.raw])

theorem row_cases (i : Instr) : RowKind i := by
  cases i with
  | reservedFF7 => exact .error (fun _ => .invalidExtension 0xFF 7) (fun _ => rfl) (fun _ => DecodeError.noConfusion)
  | escapePrefixOtherThanRep =>
    exact .error (fun ps => .invalidPrefix (.escape ps)) (fun _ => rfl) (fun _ => DecodeError.noConfusion)
  | escapeNoPrefix b2 => exact .error (fun _ => .invalidOpcode 0x0F b2) (fun _ => rfl) (fun _ => DecodeError.noConfusion)
  | escapeRepSecondByte b2 => exact .error (fun _ => .invalidOpcode 0x0F b2) (fun _ => rfl) (fun _ => DecodeError.noConfusion)
  | escapeRepThirdByte b3 =>
    exact .error (fun _ => .invalid3ByteOpcode 0x0F 0x1E b3) (fun _ => rfl) (fun _ => DecodeError.noConfusion)
  | rex w r x b => exact .rex ⟨w, r, x, b⟩ (fun _ => rfl) rfl
  | prefixLock => exact .legacy .lock (fun _ => rfl) rfl
  | prefixRepNE => exact .legacy .repNE (fun _ => rfl) rfl
  | prefixRep => exact .legacy .rep (fun _ => rfl) rfl
  | prefixSegES => exact .legacy .segES (fun _ => rfl) rfl
  | prefixSegCS => exact .legacy .segCS (fun _ => rfl) rfl
  | prefixSegSS => exact .legacy .segSS (fun _ => rfl) rfl
  | prefixSegDS => exact .legacy .segDS (fun _ => rfl) rfl
  | prefixSegFS => exact .legacy .segFS (fun _ => rfl) rfl
  | prefixSegGS => exact .legacy .segGS (fun _ => rfl) rfl
  | prefixOperandSizeOverride => exact .legacy .operandSizeOverride (fun _ => rfl) rfl
  | prefixAddressSizeOverride => exact .legacy .addressSizeOverride (fun _ => rfl) rfl
  | _ => exact .entry rfl

/-! ## What a lookup sees -/

theorem Buffer.window_none {b : Buffer} {p : Nat} (h : b.byte? p = none) (n : Nat) : b.window p n = [] := by
  rw [Buffer.byte?_eq_none] at h
  have : min n (b.len - p) = 0 := by omega
  simp [Buffer.window, Buffer.unread, this]

theorem Buffer.window_some {b : Buffer} {p : Nat} {v : Byte} (h : b.byte? p = some v) (n : Nat) :
    b.window p (n + 1) = v :: b.window (p + 1) n := by
  rw [Buffer.byte?_eq_some] at h
  have h1 : min (n + 1) (b.len - p) = min n (b.len - (p + 1)) + 1 := by omega
  simp only [Buffer.window, Buffer.unread, h1, Memory.bytesAt_succ, h.2]

/-! ## The one-byte map and the opcode arithmetic -/

/-- A byte that is a prefix is so in every mode. -/
theorem lookup_prefix : ∀ (mode : CpuMode) (b : Byte) (p : Prefix), classifyPrefix b = some p →
    ∃ i, lookup mode b = .row i ∧ ∀ s, exec i s = runPrefix p s := by
  have h : ∀ b : Byte, ∀ p ∈ classifyPrefix b, classifyRex b = none ∧ ∃ i ∈
      [(Prefix.lock, Instr.prefixLock), (.repNE, .prefixRepNE), (.rep, .prefixRep), (.segES, .prefixSegES),
       (.segCS, .prefixSegCS), (.segSS, .prefixSegSS), (.segDS, .prefixSegDS), (.segFS, .prefixSegFS), (.segGS, .prefixSegGS),
       (.operandSizeOverride, .prefixOperandSizeOverride), (.addressSizeOverride, .prefixAddressSizeOverride)],
      mapCell b = .row i.2 ∧ i.1 = p := by decide
  intro mode b p hp
  obtain ⟨hr, i, hi, hm, rfl⟩ := h b p hp
  refine ⟨i.2, ?_, ?_⟩
  · cases mode <;> simp [lookup, hr, hm]
  · intro s
    simp only [List.mem_cons, List.not_mem_nil, or_false] at hi
    rcases hi with rfl | rfl | rfl | rfl | rfl | rfl | rfl | rfl | rfl | rfl | rfl <;> rfl

/-- What the one-byte map holds at a byte that is neither a prefix nor the escape nor an extension opcode is the row that encodes
to that byte. -/
theorem mapCell_row : ∀ b : Byte, classifyPrefix b = none → b ≠ 0x0F → ¬(b = 0x80 ∨ b = 0x81 ∨ b = 0x82 ∨ b = 0x83 ∨ b = 0xFF) →
    ∃ i, mapCell b = .row i ∧ encode i = [b] := by
  have h : ∀ b : Byte, classifyPrefix b = none → b ≠ 0x0F → ¬(b = 0x80 ∨ b = 0x81 ∨ b = 0x82 ∨ b = 0x83 ∨ b = 0xFF) →
      (match mapCell b with
      | .row i => encode i == [b]
      | .escape | .needsExt _ => false) = true := by decide
  intro b h1 h2 h3
  have := h b h1 h2 h3
  revert this
  cases mapCell b with
  | row i => exact fun h => ⟨i, rfl, eq_of_beq h⟩
  | escape => exact fun h => absurd h Bool.false_ne_true
  | needsExt g => exact fun h => absurd h Bool.false_ne_true

/-- The escape and the extension opcodes stand at their bytes. -/
theorem mapCell_special : mapCell 0x0F = .escape ∧ mapCell 0x80 = .needsExt .x80 ∧ mapCell 0x81 = .needsExt .x81
    ∧ mapCell 0x82 = .needsExt .x82 ∧ mapCell 0x83 = .needsExt .x83 ∧ mapCell 0xFF = .needsExt .xFF := by decide


/-- A row of one byte that is no prefix and no REX row runs the entry that `Txn.plainEntry` gives its byte. -/
theorem exec_plain (i : Instr) (b : Byte) (h : encode i = [b]) (hp : classifyPrefix b = none) (h0F : b ≠ 0x0F)
    (hx : ∀ w r x b, i ≠ .rex w r x b) (s : State) :
    exec i s = runEntry [b] (Txn.plainEntry b).identity (Txn.plainEntry b).encoding (Txn.plainEntry b).templates s := by
  have hk : isEntryRow i = true := by
    cases i <;>
      first
      | rfl
      | exact absurd rfl (hx _ _ _ _)
      | (cases h; done)
      | (obtain rfl := (List.cons.inj h).1; first | exact absurd rfl h0F | cases hp)
  have hl : i.opLen = 1 := by cases i <;> first | rfl | cases h
  have he : rowEntry i = Txn.plainEntry b := by simp only [rowEntry, h]
  rw [exec_entry i hk, hl, h, he]; rfl

end Sys2Proof.Machine
end

