-- ==== Sys2Proof/Laws/Entries.lean ====
section
/-! SUPPORT. How a row of one opcode byte ends, from what its addressing bytes and its operands give. -/

namespace Sys2Proof.Machine

/-- A row whose operands resolve returns the Instruction built from them (40_decode_pipeline.md R160). -/
theorem runEntry_returned (s : State) (b : Byte) (identity : OpcodeIdentity) (enc : Encoding) (T : List Template) {q r : Nat}
    {a : Txn.Addressing} {ops : List ResolvedOperand}
    (ha : Txn.addressing s.buf s.mode s.tx.rex enc (s.pos + 1) = .ok a q)
    (ho : Txn.operands s.buf ⟨s.mode, s.tx.rex, b, a, s.eos, s.eas⟩ T [] q = .ok ops r) :
    runEntry [b] identity enc T s = .next (s.returned (s.built [b] identity enc a ops r) r) := by
  have ho' : Txn.operands s.buf ⟨s.mode, s.tx.rex, b, a, effOpSize s.mode (s.tx.prefixes.contains .operandSizeOverride)
      (rexBit Rex.w s.tx.rex), effAddrSize s.mode (s.tx.prefixes.contains .addressSizeOverride)⟩ T [] q = .ok ops r := ho
  rw [runEntry_eq]
  refine congrArg Host.Outcome.next ?_
  show s.ended (Txn.fromEntry _ _ _ _ _ _ _ _ (s.pos + 1)) = _
  unfold Txn.fromEntry
  dsimp only
  rw [ha]
  simp only [Txn.Got.bind]
  rw [ho']
  rfl

/-- A row one of whose operands raises an error fails there (40_decode_pipeline.md R161). -/
theorem runEntry_failed (s : State) (b : Byte) (identity : OpcodeIdentity) (enc : Encoding) (T : List Template) {q r : Nat}
    {a : Txn.Addressing} {e : DecodeError}
    (ha : Txn.addressing s.buf s.mode s.tx.rex enc (s.pos + 1) = .ok a q)
    (ho : Txn.operands s.buf ⟨s.mode, s.tx.rex, b, a, s.eos, s.eas⟩ T [] q = .raise e r) :
    runEntry [b] identity enc T s = .next (s.failed e r) := by
  have ho' : Txn.operands s.buf ⟨s.mode, s.tx.rex, b, a, effOpSize s.mode (s.tx.prefixes.contains .operandSizeOverride)
      (rexBit Rex.w s.tx.rex), effAddrSize s.mode (s.tx.prefixes.contains .addressSizeOverride)⟩ T [] q = .raise e r := ho
  rw [runEntry_eq]
  refine congrArg Host.Outcome.next ?_
  show s.ended (Txn.fromEntry _ _ _ _ _ _ _ _ (s.pos + 1)) = _
  unfold Txn.fromEntry
  dsimp only
  rw [ha]
  simp only [Txn.Got.bind]
  rw [ho']
  rfl

/-- A row whose addressing bytes run past the buffer fails there. -/
theorem runEntry_short (s : State) (b : Byte) (identity : OpcodeIdentity) (enc : Encoding) (T : List Template) {q : Nat}
    {e : DecodeError} (ha : Txn.addressing s.buf s.mode s.tx.rex enc (s.pos + 1) = .raise e q) :
    runEntry [b] identity enc T s = .next (s.failed e q) := by
  rw [runEntry_eq]
  refine congrArg Host.Outcome.next ?_
  show s.ended (Txn.fromEntry _ _ _ _ _ _ _ _ (s.pos + 1)) = _
  unfold Txn.fromEntry
  dsimp only
  rw [ha]
  rfl

/-- The effective address size is legal for memory in 64-bit mode and wherever 0x67 is absent (40_decode_pipeline.md R151). -/
theorem legalAddrSize_easOf (mode : CpuMode) (ps : List Prefix) :
    legalAddrSize mode (easOf mode ps) = true ↔ mode = .m64 ∨ Prefix.addressSizeOverride ∉ ps := by
  have hc : addressSizeOverride ps = decide (Prefix.addressSizeOverride ∈ ps) := by simp [addressSizeOverride]
  by_cases h : Prefix.addressSizeOverride ∈ ps <;> cases mode <;>
    simp [easOf, hc, h, effAddrSize, defaultAddrSize, legalAddrSize]

/-- The r/m operand of a state is what the templates E and M resolve to (40_decode_pipeline.md R150, R151). -/
theorem Txn.resolveRM_ok {s : State} {m : ModRM} {sib : Option Sib} {disp : Option Displacement} {c : SizeClass}
    {o : ResolvedOperand} (h : s.rmOperand m sib disp (classWidth c s.eos) = some o) (b : Byte) (p : Nat) :
    Txn.resolveRM ⟨s.mode, s.tx.rex, b, ⟨some m, sib, disp⟩, s.eos, s.eas⟩ m c p = .ok o p := by
  unfold Txn.resolveRM
  unfold State.rmOperand at h
  dsimp only
  cases hd : directRegister m with
  | some q => rw [hd] at h; cases h; rfl
  | none =>
    rw [hd] at h
    dsimp only at h
    split at h
    · rename_i hl
      cases hm : memDescriptor s.mode s.eas m sib disp with
      | none => rw [hm] at h; cases h
      | some d => rw [hm] at h; cases h; simp [hl]
    · cases h

/-- The size of the r/m operand is the width it was asked for. -/
theorem operandWidth_rmOperand {s : State} {m : ModRM} {sib : Option Sib} {disp : Option Displacement} {w : Width}
    {o : ResolvedOperand} (h : s.rmOperand m sib disp w = some o) : operandWidth o = w := by
  unfold State.rmOperand at h
  split at h
  · cases h; rfl
  · split at h
    · cases hm : memDescriptor s.mode s.eas m sib disp with
      | none => rw [hm] at h; cases h
      | some d => rw [hm] at h; cases h; rfl
    · cases h

end Sys2Proof.Machine
end

