-- ==== Sys2Proof/Laws/Lookup.lean ====
section
/-! SUPPORT. What one lookup at the cursor can do: a prefix row, the REX row, `Txn.committed`, or the error of a missing byte. -/

namespace Sys2Proof.Machine

theorem fetch_none {s : State} (h : s.buf.byte? s.pos = none) : s.fetch = [] := Buffer.window_none h 3

theorem fetch_some {s : State} {b : Byte} (h : s.buf.byte? s.pos = some b) : s.fetch = b :: s.buf.window (s.pos + 1) 2 :=
  Buffer.window_some h 2

/-- No byte at the cursor: NotEnoughBytes there (60_exceptions.md R401). -/
theorem lookupAndRun_none {s : State} (h : s.buf.byte? s.pos = none) :
    lookupAndRun s = .next (s.failed (.notEnoughBytes 1) s.pos) := by
  simp only [lookupAndRun, fetch_none h, decode]
  rfl

theorem decode_row {c : Ctx} {b : Byte} {rest : List Byte} {i : Instr} (h : lookup c.mode b = .row i) :
    decode c (b :: rest) = .ok i := by
  simp only [decode, h]

/-- A prefix byte at the cursor runs its prefix row. -/
theorem lookupAndRun_prefix {s : State} {b : Byte} {p : Prefix} (h : s.buf.byte? s.pos = some b)
    (hp : classifyPrefix b = some p) : lookupAndRun s = runPrefix p s := by
  obtain ⟨i, hl, hr⟩ := lookup_prefix s.mode b p hp
  simp only [lookupAndRun, fetch_some h, decode_row (c := s.ctx) hl, hr]

/-- A REX byte at the cursor in 64-bit mode runs the REX row. -/
theorem lookupAndRun_rex {s : State} {b : Byte} {r : Rex} (h : s.buf.byte? s.pos = some b) (hm : s.mode = .m64)
    (hr : classifyRex b = some r) : lookupAndRun s = runRex r s := by
  have hl : lookup s.ctx.mode b = .row (.rex r.w r.r r.x r.b) := by
    show lookup s.mode b = _
    rw [hm]; simp only [lookup, hr]
  simp only [lookupAndRun, fetch_some h, decode_row hl]
  rfl

theorem someNotRep_iff (ps : List Prefix) : someNotRep ps = true ↔ ∃ q ∈ ps, q ≠ .rep := by
  simp [someNotRep]

/-- The escape byte at the cursor runs what `Txn.escape` gives (46_escape.md R310). -/
theorem lookupAndRun_escape {s : State} (h : s.buf.byte? s.pos = some 0x0F) :
    lookupAndRun s = .next (s.ended ((Txn.escape s.buf s.tx.prefixes (s.pos + 1)).bind fun oe p =>
      Txn.fromEntry s.buf s.tx.start s.mode s.tx.prefixes s.tx.rex 0x0F oe.1 oe.2 p)) := by
  have hl : lookup s.mode 0x0F = .escape := by cases s.mode <;> decide
  have hd : decode s.ctx s.fetch = decodeEscape s.tx.prefixes (s.buf.window (s.pos + 1) 2) := by
    rw [fetch_some h]; simp only [decode, State.ctx, hl]
  simp only [lookupAndRun, hd, decodeEscape, Txn.escape]
  by_cases hn : s.tx.prefixes = []
  · have h1 : someNotRep s.tx.prefixes = false := by rw [hn]; rfl
    have h2 : s.tx.prefixes.isEmpty = true := by rw [hn]; rfl
    simp only [h1, Bool.false_eq_true, if_false, if_pos hn, Txn.read8, h2, if_true]
    cases hb : s.buf.byte? (s.pos + 1) with
    | none => rw [Buffer.window_none hb]; rfl
    | some b2 => rw [Buffer.window_some hb]; rfl
  · have h2 : s.tx.prefixes.isEmpty = false := by simpa using hn
    rw [if_neg hn]
    by_cases hs : someNotRep s.tx.prefixes = true
    · rw [if_pos hs, if_pos ((someNotRep_iff _).mp hs)]; rfl
    · rw [if_neg hs, if_neg (fun h => hs ((someNotRep_iff _).mpr h))]
      simp only [h2, Bool.false_eq_true, if_false, Txn.read8]
      cases hb : s.buf.byte? (s.pos + 1) with
      | none => rw [Buffer.window_none hb]; rfl
      | some b2 =>
        rw [Buffer.window_some hb]
        by_cases h1E : b2 = 0x1E#8
        · simp only [h1E, if_true, ne_eq, not_true, if_false, Txn.Got.bind]
          cases hc : s.buf.byte? (s.pos + 1 + 1) with
          | none => rw [Buffer.window_none hc]; rfl
          | some b3 =>
            rw [Buffer.window_some hc]
            by_cases hA : b3 = 0xFA#8
            · simp only [hA, if_true]
              exact runEntry_eq 0x0F [0x1E, 0xFA] .endBr64 .ZO [] s
            · by_cases hB : b3 = 0xFB#8
              · simp only [hB]
                exact runEntry_eq 0x0F [0x1E, 0xFB] .endBr32 .ZO [] s
              · simp only [if_neg hA, if_neg hB]; rfl
        · simp only [h1E, if_false, ne_eq, not_false_eq_true, if_true, Txn.Got.bind]; rfl

/-- The byte of an extension opcode (30_encoding.md R106). -/
def extByte : ExtOpcode → Byte
  | .x80 => 0x80
  | .x81 => 0x81
  | .x82 => 0x82
  | .x83 => 0x83
  | .xFF => 0xFF

/-- The row of an extension opcode runs what `convert_with_ext` gives (40_decode_pipeline.md R139). -/
theorem exec_extension (g : ExtOpcode) (ext : BitVec 3) (s : State) :
    exec (extensionRow g ext) s = .next (s.ended ((Txn.convertWithExt (extByte g) ext (s.pos + 1)).bind fun e p =>
      Txn.fromEntry s.buf s.tx.start s.mode s.tx.prefixes s.tx.rex (extByte g) [extByte g] e p)) := by
  have hext : ext = 0 ∨ ext = 1 ∨ ext = 2 ∨ ext = 3 ∨ ext = 4 ∨ ext = 5 ∨ ext = 6 ∨ ext = 7 := by revert ext; decide
  cases g <;> rcases hext with rfl | rfl | rfl | rfl | rfl | rfl | rfl | rfl <;>
    first
    | exact runEntry_eq _ [] _ _ _ s
    | rfl

/-- A committed opcode byte at the cursor runs the rest of the transaction: `Txn.committed` (40_decode_pipeline.md R131). -/
theorem lookupAndRun_committed {s : State} {b : Byte} (h : s.buf.byte? s.pos = some b) (hp : classifyPrefix b = none)
    (hr : s.mode = .m64 → classifyRex b = none) :
    lookupAndRun s = .next (s.ended (Txn.committed s.buf s.tx.start s.mode s.tx.prefixes s.tx.rex b (s.pos + 1))) := by
  have hl : lookup s.mode b = mapCell b := by
    unfold lookup
    split
    · rename_i hm hc; rw [hr hm] at hc; cases hc
    · rfl
  by_cases h0F : b = 0x0F
  · subst h0F
    rw [lookupAndRun_escape h]
    simp only [Txn.committed, Txn.opcode, if_true]
  · by_cases hx : b = 0x80 ∨ b = 0x81 ∨ b = 0x82 ∨ b = 0x83 ∨ b = 0xFF
    · obtain ⟨g, hg, rfl⟩ : ∃ g, mapCell b = .needsExt g ∧ b = extByte g := by
        rcases hx with rfl | rfl | rfl | rfl | rfl
        exacts [⟨.x80, rfl, rfl⟩, ⟨.x81, rfl, rfl⟩, ⟨.x82, rfl, rfl⟩, ⟨.x83, rfl, rfl⟩, ⟨.xFF, rfl, rfl⟩]
      have hd : decode s.ctx s.fetch = match s.buf.window (s.pos + 1) 2 with
          | [] => .error (.notEnoughBytes 1)
          | m :: _ => .ok (extensionRow g (bits m 3 3)) := by
        rw [fetch_some h]; simp only [decode, State.ctx, hl, hg] <;> rfl
      simp only [lookupAndRun, hd, Txn.committed, Txn.opcode, if_neg h0F, if_pos hx, Txn.peek8]
      cases hb : s.buf.byte? (s.pos + 1) with
      | none => rw [Buffer.window_none hb]; rfl
      | some m =>
        rw [Buffer.window_some hb]
        show exec (extensionRow g (bits m 3 3)) s = _
        rw [exec_extension g]
        simp only [Txn.Got.bind]
        cases Txn.convertWithExt (extByte g) (bits m 3 3) (s.pos + 1) <;> rfl
    · obtain ⟨i, hi, he⟩ := mapCell_row b hp h0F hx
      have hnr : ∀ w r x b', i ≠ .rex w r x b' := by
        rintro w r x b' rfl
        have : ∀ b : Byte, ∀ w r x b', mapCell b ≠ .row (.rex w r x b') := by decide
        exact this b w r x b' hi
      have hd : decode s.ctx s.fetch = .ok i := by
        rw [fetch_some h]; exact decode_row (hl.trans hi)
      simp only [lookupAndRun, hd]
      rw [exec_plain i b he hp h0F hnr s, runEntry_eq]
      simp only [Txn.committed, Txn.opcode, if_neg h0F, if_neg hx, Txn.Got.bind]
      rfl

end Sys2Proof.Machine
end

