-- ==== Sys2Proof/Laws/Step.lean ====
section
/-! SUPPORT. What one step does: inside a transaction, at the start of one, and with a call pending; what the lookup sees of the unread bytes. -/

namespace Sys2Proof.Machine

/-- A lookup reads three bytes at most (46_escape.md R310). -/
theorem decode_take_three (c : Ctx) (bs : List Byte) : decode c (bs.take 3) = decode c bs := by
  rcases bs with _ | ⟨b, _ | ⟨b2, _ | ⟨b3, rest⟩⟩⟩ <;> rfl

theorem Memory.bytesAt_take (m : Memory) : ∀ n a k : Nat, (m.bytesAt a n).take k = m.bytesAt a (min k n)
  | 0, a, k => by simp
  | n + 1, a, 0 => by simp
  | n + 1, a, k + 1 => by rw [Nat.succ_min_succ]; simp [Memory.bytesAt_succ, Memory.bytesAt_take m n (a + 1) k]

/-- The lookup at the cursor is the lookup on all the unread bytes. -/
theorem decode_fetch (s : State) : decode s.ctx s.fetch = decode s.ctx (s.buf.mem.bytesAt s.pos (s.buf.len - s.pos)) := by
  rw [← decode_take_three s.ctx (s.buf.mem.bytesAt _ _), Memory.bytesAt_take]; rfl

/-- A lookup fails only for want of a byte, after reading all there are (60_exceptions.md R401). -/
theorem decode_error {c : Ctx} {bs : List Byte} {r : Reject} (h : decode c bs = .error r) : r = .notEnoughBytes bs.length := by
  cases bs with
  | nil => cases h; rfl
  | cons b rest =>
    unfold decode at h
    dsimp only at h
    split at h
    · cases h
    · unfold decodeEscape at h
      split at h
      · cases h
      · split at h
        · cases h; rfl
        · split at h
          · cases h
          · split at h
            · split at h
              · cases h; rfl
              · split at h <;> (try split at h) <;> cases h
            · cases h
    · split at h
      · cases h; rfl
      · cases h

theorem resume_lookup {s : State} (h : s.tx.stage = .awaitingOpcode ∨ s.tx.stage = .haveRex) : resume s = none := by
  unfold resume; rcases h with h | h <;> rw [h]

theorem stepInside_lookup {s : State} (h : s.tx.stage = .awaitingOpcode ∨ s.tx.stage = .haveRex) :
    stepInside s = lookupAndRun s := by
  unfold stepInside; rw [resume_lookup h]

theorem atStart_iff (s : State) : s.atStart = true ↔ s.tx = Transient.init s.pos := by simp [State.atStart]

/-- A step with no call to begin is the lookup at the cursor. -/
theorem step_lookup {s : State} (h : s.tx.stage = .awaitingOpcode ∨ s.tx.stage = .haveRex)
    (h2 : s.atStart = true → s.calls = [] ∧ s.pos ≤ s.buf.len) : step s = lookupAndRun s := by
  have ht : takeCall s = .next s := by
    unfold takeCall
    split
    · rename_i hs
      obtain ⟨h3, h4⟩ := h2 hs
      rw [h3]; simp [h4]
    · rfl
  unfold step; rw [ht]; exact stepInside_lookup h

/-- A step that begins a call is the lookup at that call's start (70_reset_and_hazards.md R452). -/
theorem step_begins_call {s : State} {c : Call} {rest : List Call} (h : s.atStart = true) (hc : s.calls = c :: rest)
    (hl : c.start ≤ (c.buf.getD s.buf).len) :
    step s = lookupAndRun
      { s with buf := c.buf.getD s.buf, mode := c.mode, pos := c.start, tx := Transient.init c.start, calls := rest } := by
  unfold step takeCall
  rw [if_pos h, hc]
  unfold beginCall
  dsimp only
  rw [if_pos hl]
  exact stepInside_lookup (.inl rfl)

end Sys2Proof.Machine
end

