-- ==== Sys2Proof/Tests/Slice0.lean ====
section
/-! SUPPORT. Tests: every check of WellFormed refuses an ill-formed term; every row decodes from the word of its encoding in spec/; small steps with the results of spec 95_test_vectors.md; a witness for the hypotheses of each statement. -/

namespace Sys2Proof.Tests

open Sys2Proof.Machine Sys2Proof.Claims

/-! ## WellFormed refuses -/

theorem test_wf_escape_second_byte : (Instr.escapeRepSecondByte 0x1E).wf = false ∧ (Instr.escapeRepSecondByte 0x1F).wf = true := by decide
theorem test_wf_escape_third_byte_FA : (Instr.escapeRepThirdByte 0xFA).wf = false := by decide
theorem test_wf_escape_third_byte_FB : (Instr.escapeRepThirdByte 0xFB).wf = false ∧ (Instr.escapeRepThirdByte 0xFC).wf = true := by decide
theorem test_fits_rex_outside_64 : (Instr.rex true false false false).fits ⟨.m32, []⟩ = false := by decide
theorem test_fits_inc_in_64 : (Instr.incRv 0).fits ⟨.m64, []⟩ = false ∧ (Instr.decRv 0).fits ⟨.m64, []⟩ = false := by decide
theorem test_fits_escape_by_prefixes : (Instr.escapeNoPrefix 5).fits ⟨.m64, [.rep]⟩ = false
    ∧ Instr.escapePrefixOtherThanRep.fits ⟨.m64, [.rep]⟩ = false ∧ Instr.endBr64.fits ⟨.m64, []⟩ = false
    ∧ Instr.endBr64.fits ⟨.m64, [.rep, .lock]⟩ = false ∧ (Instr.escapeRepSecondByte 5).fits ⟨.m64, []⟩ = false := by decide
theorem test_prefixesWf_four : prefixesWf [.rep, .rep, .rep, .rep] = false := by decide
theorem test_entry_reads_missing_modrm : Entry.wf ⟨.push, .ZO, [.E .V]⟩ = false := by decide
theorem test_entry_five_templates : Entry.wf ⟨.add, .MR, [.E .V, .G .V, .G .V, .G .V, .G .V]⟩ = false := by decide
theorem test_memory_wf : Memory.wf [(1, 5), (1, 6)] = false ∧ Memory.wf [(2, 5), (1, 6)] = false ∧ Memory.wf [(1, 0)] = false := by decide
theorem test_buffer_wf : Buffer.wf ⟨1, [(1, 5)]⟩ = false ∧ Buffer.wf ⟨2, [(1, 5)]⟩ = true := by decide

/-! ## Decoding: the words are those of the encoding column of spec/opcode_table.json -/

/-- Each word decodes to its row, in 32-bit mode with no prefix. -/
def decodeAll (l : List (List Byte × Instr)) : Bool := l.all fun x => decide (decode ⟨.m32, []⟩ x.1 = .ok x.2)

theorem test_decode_Alu : decodeAll
    [([0b00000000], .addEbGb), ([0b00000001], .addEvGv), ([0b00000010], .addGbEb), ([0b00000011], .addGvEv), ([0b00000100], .addALIb),
     ([0b00000101], .addRAXIz), ([0b00001000], .orEbGb), ([0b00001001], .orEvGv), ([0b00001010], .orGbEb), ([0b00001011], .orGvEv),
     ([0b00001100], .orALIb), ([0b00001101], .orRAXIz), ([0b00010000], .adcEbGb), ([0b00010001], .adcEvGv), ([0b00010010], .adcGbEb),
     ([0b00010011], .adcGvEv), ([0b00010100], .adcALIb), ([0b00010101], .adcRAXIz), ([0b00011000], .sbbEbGb), ([0b00011001], .sbbEvGv),
     ([0b00011010], .sbbGbEb), ([0b00011011], .sbbGvEv), ([0b00011100], .sbbALIb), ([0b00011101], .sbbRAXIz), ([0b00100000], .andEbGb),
     ([0b00100001], .andEvGv), ([0b00100010], .andGbEb), ([0b00100011], .andGvEv), ([0b00100100], .andALIb), ([0b00100101], .andRAXIz),
     ([0b00101000], .subEbGb), ([0b00101001], .subEvGv), ([0b00101010], .subGbEb), ([0b00101011], .subGvEv), ([0b00101100], .subALIb),
     ([0b00101101], .subRAXIz), ([0b00110000], .xorEbGb), ([0b00110001], .xorEvGv), ([0b00110010], .xorGbEb), ([0b00110011], .xorGvEv),
     ([0b00110100], .xorALIb), ([0b00110101], .xorRAXIz), ([0b00111000], .cmpEbGb), ([0b00111001], .cmpEvGv), ([0b00111010], .cmpGbEb),
     ([0b00111011], .cmpGvEv), ([0b00111100], .cmpALIb), ([0b00111101], .cmpRAXIz)] = true := by decide

theorem test_decode_Group1 : decodeAll
    [([0b10000000, 0b11000010], .addEbIb80), ([0b10000000, 0b11001010], .orEbIb80), ([0b10000000, 0b11010010], .adcEbIb80), ([0b10000000, 0b11011010], .sbbEbIb80), ([0b10000000, 0b11100010], .andEbIb80),
     ([0b10000000, 0b11101010], .subEbIb80), ([0b10000000, 0b11110010], .xorEbIb80), ([0b10000000, 0b11111010], .cmpEbIb80), ([0b10000001, 0b11000010], .addEvIz), ([0b10000001, 0b11001010], .orEvIz),
     ([0b10000001, 0b11010010], .adcEvIz), ([0b10000001, 0b11011010], .sbbEvIz), ([0b10000001, 0b11100010], .andEvIz), ([0b10000001, 0b11101010], .subEvIz), ([0b10000001, 0b11110010], .xorEvIz),
     ([0b10000001, 0b11111010], .cmpEvIz), ([0b10000010, 0b11000010], .addEbIb82), ([0b10000010, 0b11001010], .orEbIb82), ([0b10000010, 0b11010010], .adcEbIb82), ([0b10000010, 0b11011010], .sbbEbIb82),
     ([0b10000010, 0b11100010], .andEbIb82), ([0b10000010, 0b11101010], .subEbIb82), ([0b10000010, 0b11110010], .xorEbIb82), ([0b10000010, 0b11111010], .cmpEbIb82), ([0b10000011, 0b11000010], .addEvIb),
     ([0b10000011, 0b11001010], .orEvIb), ([0b10000011, 0b11010010], .adcEvIb), ([0b10000011, 0b11011010], .sbbEvIb), ([0b10000011, 0b11100010], .andEvIb), ([0b10000011, 0b11101010], .subEvIb),
     ([0b10000011, 0b11110010], .xorEvIb), ([0b10000011, 0b11111010], .cmpEvIb)] = true := by decide

theorem test_decode_Group5 : decodeAll
    [([0b11111111, 0b11000010], .incEv), ([0b11111111, 0b11001010], .decEv), ([0b11111111, 0b11010010], .callNearEv), ([0b11111111, 0b11011010], .callFarMp), ([0b11111111, 0b11100010], .jmpNearEv),
     ([0b11111111, 0b11101010], .jmpFarMp), ([0b11111111, 0b11110010], .pushEv), ([0b11111111, 0b11111010], .reservedFF7)] = true := by decide

theorem test_decode_MovLeaPush : decodeAll
    [([0b10001001], .movEvGv), ([0b10001101], .leaGvMv), ([0b00000110], .pushES), ([0b00001110], .pushCS), ([0b00010110], .pushSS),
     ([0b00011110], .pushDS)] = true := by decide

theorem test_decode_Unknown_0 : decodeAll
    [([0b00000111], .unknown07), ([0b00010111], .unknown17), ([0b00011111], .unknown1F), ([0b00100111], .unknown27), ([0b00101111], .unknown2F),
     ([0b00110111], .unknown37), ([0b00111111], .unknown3F), ([0b01011000], .unknown58), ([0b01011001], .unknown59), ([0b01011010], .unknown5A),
     ([0b01011011], .unknown5B), ([0b01011100], .unknown5C), ([0b01011101], .unknown5D), ([0b01011110], .unknown5E), ([0b01011111], .unknown5F),
     ([0b01100000], .unknown60), ([0b01100001], .unknown61), ([0b01100010], .unknown62), ([0b01100011], .unknown63), ([0b01101000], .unknown68),
     ([0b01101001], .unknown69), ([0b01101010], .unknown6A), ([0b01101011], .unknown6B), ([0b01101100], .unknown6C), ([0b01101101], .unknown6D),
     ([0b01101110], .unknown6E), ([0b01101111], .unknown6F), ([0b01110000], .unknown70), ([0b01110001], .unknown71), ([0b01110010], .unknown72),
     ([0b01110011], .unknown73), ([0b01110100], .unknown74), ([0b01110101], .unknown75), ([0b01110110], .unknown76), ([0b01110111], .unknown77),
     ([0b01111000], .unknown78), ([0b01111001], .unknown79), ([0b01111010], .unknown7A), ([0b01111011], .unknown7B), ([0b01111100], .unknown7C),
     ([0b01111101], .unknown7D), ([0b01111110], .unknown7E), ([0b01111111], .unknown7F), ([0b10000100], .unknown84), ([0b10000101], .unknown85),
     ([0b10000110], .unknown86), ([0b10000111], .unknown87), ([0b10001000], .unknown88)] = true := by decide

theorem test_decode_Unknown_1 : decodeAll
    [([0b10001010], .unknown8A), ([0b10001011], .unknown8B), ([0b10001100], .unknown8C), ([0b10001110], .unknown8E), ([0b10001111], .unknown8F),
     ([0b10010000], .unknown90), ([0b10010001], .unknown91), ([0b10010010], .unknown92), ([0b10010011], .unknown93), ([0b10010100], .unknown94),
     ([0b10010101], .unknown95), ([0b10010110], .unknown96), ([0b10010111], .unknown97), ([0b10011000], .unknown98), ([0b10011001], .unknown99),
     ([0b10011010], .unknown9A), ([0b10011011], .unknown9B), ([0b10011100], .unknown9C), ([0b10011101], .unknown9D), ([0b10011110], .unknown9E),
     ([0b10011111], .unknown9F), ([0b10100000], .unknownA0), ([0b10100001], .unknownA1), ([0b10100010], .unknownA2), ([0b10100011], .unknownA3),
     ([0b10100100], .unknownA4), ([0b10100101], .unknownA5), ([0b10100110], .unknownA6), ([0b10100111], .unknownA7), ([0b10101000], .unknownA8),
     ([0b10101001], .unknownA9), ([0b10101010], .unknownAA), ([0b10101011], .unknownAB), ([0b10101100], .unknownAC), ([0b10101101], .unknownAD),
     ([0b10101110], .unknownAE), ([0b10101111], .unknownAF), ([0b10110000], .unknownB0), ([0b10110001], .unknownB1), ([0b10110010], .unknownB2),
     ([0b10110011], .unknownB3), ([0b10110100], .unknownB4), ([0b10110101], .unknownB5), ([0b10110110], .unknownB6), ([0b10110111], .unknownB7),
     ([0b10111000], .unknownB8), ([0b10111001], .unknownB9), ([0b10111010], .unknownBA)] = true := by decide

theorem test_decode_Unknown_2 : decodeAll
    [([0b10111011], .unknownBB), ([0b10111100], .unknownBC), ([0b10111101], .unknownBD), ([0b10111110], .unknownBE), ([0b10111111], .unknownBF),
     ([0b11000000], .unknownC0), ([0b11000001], .unknownC1), ([0b11000010], .unknownC2), ([0b11000011], .unknownC3), ([0b11000100], .unknownC4),
     ([0b11000101], .unknownC5), ([0b11000110], .unknownC6), ([0b11000111], .unknownC7), ([0b11001000], .unknownC8), ([0b11001001], .unknownC9),
     ([0b11001010], .unknownCA), ([0b11001011], .unknownCB), ([0b11001100], .unknownCC), ([0b11001101], .unknownCD), ([0b11001110], .unknownCE),
     ([0b11001111], .unknownCF), ([0b11010000], .unknownD0), ([0b11010001], .unknownD1), ([0b11010010], .unknownD2), ([0b11010011], .unknownD3),
     ([0b11010100], .unknownD4), ([0b11010101], .unknownD5), ([0b11010110], .unknownD6), ([0b11010111], .unknownD7), ([0b11011000], .unknownD8),
     ([0b11011001], .unknownD9), ([0b11011010], .unknownDA), ([0b11011011], .unknownDB), ([0b11011100], .unknownDC), ([0b11011101], .unknownDD),
     ([0b11011110], .unknownDE), ([0b11011111], .unknownDF), ([0b11100000], .unknownE0), ([0b11100001], .unknownE1), ([0b11100010], .unknownE2),
     ([0b11100011], .unknownE3), ([0b11100100], .unknownE4), ([0b11100101], .unknownE5), ([0b11100110], .unknownE6), ([0b11100111], .unknownE7),
     ([0b11101000], .unknownE8), ([0b11101001], .unknownE9), ([0b11101010], .unknownEA)] = true := by decide

theorem test_decode_Unknown_3 : decodeAll
    [([0b11101011], .unknownEB), ([0b11101100], .unknownEC), ([0b11101101], .unknownED), ([0b11101110], .unknownEE), ([0b11101111], .unknownEF),
     ([0b11110001], .unknownF1), ([0b11110100], .unknownF4), ([0b11110101], .unknownF5), ([0b11110110], .unknownF6), ([0b11110111], .unknownF7),
     ([0b11111000], .unknownF8), ([0b11111001], .unknownF9), ([0b11111010], .unknownFA), ([0b11111011], .unknownFB), ([0b11111100], .unknownFC),
     ([0b11111101], .unknownFD), ([0b11111110], .unknownFE)] = true := by decide

theorem test_decode_Prefix : decodeAll
    [([0b11110000], .prefixLock), ([0b11110010], .prefixRepNE), ([0b11110011], .prefixRep), ([0b00100110], .prefixSegES), ([0b00101110], .prefixSegCS),
     ([0b00110110], .prefixSegSS), ([0b00111110], .prefixSegDS), ([0b01100100], .prefixSegFS), ([0b01100101], .prefixSegGS), ([0b01100110], .prefixOperandSizeOverride),
     ([0b01100111], .prefixAddressSizeOverride)] = true := by decide

theorem test_decode_Push_rv : decode ⟨.m32, []⟩ [0b01010011] = .ok (.pushRv 0b011) := by decide
theorem test_decode_Inc_rv : decode ⟨.m32, []⟩ [0b01000101] = .ok (.incRv 0b101) := by decide
theorem test_decode_Dec_rv : decode ⟨.m16, []⟩ [0b01001110] = .ok (.decRv 0b110) := by decide
theorem test_decode_REX : decode ⟨.m64, [.lock]⟩ [0b01001001] = .ok (.rex true false false true) := by decide
theorem test_decode_EndBr : decode ⟨.m16, [.rep, .rep]⟩ [0b00001111, 0b00011110, 0b11111010] = .ok .endBr64
    ∧ decode ⟨.m64, [.rep]⟩ [0b00001111, 0b00011110, 0b11111011] = .ok .endBr32 := by decide
theorem test_decode_escape_errors : decode ⟨.m32, [.rep, .operandSizeOverride]⟩ [0b00001111] = .ok .escapePrefixOtherThanRep
    ∧ decode ⟨.m32, []⟩ [0b00001111, 0b10101110] = .ok (.escapeNoPrefix 0xAE)
    ∧ decode ⟨.m32, [.rep]⟩ [0b00001111, 0b10111000] = .ok (.escapeRepSecondByte 0xB8)
    ∧ decode ⟨.m32, [.rep]⟩ [0b00001111, 0b00011110, 0b11111100] = .ok (.escapeRepThirdByte 0xFC) := by decide
theorem test_decode_reserved_FF7 : decode ⟨.m32, []⟩ [0b11111111, 0b00111000] = .ok .reservedFF7 := by decide
theorem test_decode_missing_bytes : decode ⟨.m32, []⟩ [0x81] = .error (.notEnoughBytes 1)
    ∧ decode ⟨.m64, [.rep]⟩ [0x0F, 0x1E] = .error (.notEnoughBytes 2) ∧ decode ⟨.m64, []⟩ [] = .error (.notEnoughBytes 0) := by
  decide

/-! ## One step, or one transaction, with the results of 95_test_vectors.md -/

/-- A machine between two transactions on a buffer that holds exactly these bytes. -/
def start (bs : List Byte) (mode : CpuMode) : State := { State.reset with buf := Buffer.ofBytes bs, mode := mode }

/-- The same with prefixes and a REX byte already scanned: the bytes are all those of the buffer. -/
def scanned (bs : List Byte) (mode : CpuMode) (ps : List Prefix) (rex : Option Rex) : State :=
  { start bs mode with pos := ps.length + rex.toList.length, tx := Transient.scanned 0 ps rex }

/-- The last result of one step. -/
def stepResult (s : State) : Option Result :=
  match step s with
  | .next t => lastResult t
  | .fault _ | .refused _ => none

/-- Identity, operands, opsize and length of an Instruction. -/
def shown : Option Result → Option (OpcodeIdentity × List ResolvedOperand × OperandSize × Nat)
  | some (.instruction ins _) => some (ins.opcode, ins.operands, ins.opsize, ins.length)
  | some (.error _ _) | none => none

/-- Error and position. -/
def raised : Option Result → Option (DecodeError × Nat)
  | some (.error e p) => some (e, p)
  | some (.instruction _ _) | none => none

theorem test_S1_xor : shown (stepResult (start [0x31, 0xC0] .m64)) = some (.xor, [.reg .eax .w32, .reg .eax .w32], .o32, 2) := by decide
theorem test_S2_mov : shown (stepResult (scanned [0x48, 0x89, 0xE2] .m64 [] (some ⟨true, false, false, false⟩)))
    = some (.mov, [.reg .rdx .w64, .reg .rsp .w64], .o64, 3) := by decide
theorem test_S3_endbr64 : shown (stepResult (scanned [0xF3, 0x0F, 0x1E, 0xFA] .m64 [.rep] none)) = some (.endBr64, [], .o32, 4) := by decide
theorem test_V129_endbr32 : shown (stepResult (scanned [0xF3, 0x0F, 0x1E, 0xFB] .m32 [.rep] none)) = some (.endBr32, [], .o32, 4) := by decide
theorem test_S4_xor_imm8 : shown (stepResult (start [0x83, 0xF0, 0xFF] .m32))
    = some (.xor, [.reg .eax .w32, .imm ⟨.b32 0xFFFFFFFF, true⟩], .o32, 3) := by decide
theorem test_S5_missing_extension : raised (stepResult (start [0x81] .m32)) = some (.notEnoughBytes 1, 1) := by decide
theorem test_S6_disp32 : shown (stepResult (start [0x01, 0x05, 0x78, 0x56, 0x34, 0x12] .m32))
    = some (.add, [.mem ⟨.a32, .noBase, none, none, none, some (.b32 0x12345678), false⟩ .w32, .reg .eax .w32], .o32, 6) := by decide
theorem test_V24_ah : shown (stepResult (start [0x00, 0xE0] .m64)) = some (.add, [.reg .al .w8, .reg .ah .w8], .o32, 2) := by decide
theorem test_V25_spl : shown (stepResult (scanned [0x40, 0x00, 0xE0] .m64 [] (some ⟨false, false, false, false⟩)))
    = some (.add, [.reg .al .w8, .reg .spl .w8], .o32, 3) := by decide
theorem test_V29_order : shown (stepResult (start [0x02, 0xC8] .m32)) = some (.add, [.reg .cl .w8, .reg .al .w8], .o32, 2) := by decide
theorem test_V30_order : shown (stepResult (start [0x03, 0xC8] .m32)) = some (.add, [.reg .ecx .w32, .reg .eax .w32], .o32, 2) := by decide
theorem test_V44_or_al : shown (stepResult (start [0x0C, 0x80] .m32)) = some (.or, [.reg .al .w8, .imm ⟨.b8 0x80, true⟩], .o32, 2) := by decide
theorem test_V33_add_ax : shown (stepResult (start [0x05, 0x34, 0x12] .m16)) = some (.add, [.reg .ax .w16, .imm ⟨.b16 0x1234, true⟩], .o16, 3) := by decide
theorem test_V35_add_rax : shown (stepResult (scanned [0x48, 0x05, 0xFF, 0xFF, 0xFF, 0xFF] .m64 [] (some ⟨true, false, false, false⟩)))
    = some (.add, [.reg .rax .w64, .imm ⟨.b64 0xFFFFFFFFFFFFFFFF, true⟩], .o64, 6) := by decide
theorem test_V61_bp_disp8 : shown (stepResult (start [0x01, 0x46, 0xFE] .m16))
    = some (.add, [.mem ⟨.a16, .pair16, some .bp, none, none, some (.b8 0xFE), false⟩ .w16, .reg .ax .w16], .o16, 3) := by decide
theorem test_V66_short_disp32 : raised (stepResult (start [0x01, 0x05, 0x00, 0x10] .m32)) = some (.notEnoughBytes 4, 2) := by decide
theorem test_V71_cmp_mem : shown (stepResult (start [0x80, 0x3D, 0x00, 0x20, 0x00, 0x00, 0xFF] .m32))
    = some (.cmp, [.mem ⟨.a32, .noBase, none, none, none, some (.b32 0x2000), false⟩ .w8, .imm ⟨.b8 0xFF, true⟩], .o32, 7) := by decide
theorem test_V76_82_in_64 : shown (stepResult (start [0x82, 0xC0, 0x12] .m64)) = some (.add, [.reg .al .w8, .imm ⟨.b8 0x12, true⟩], .o32, 3) := by decide
theorem test_V75_imm32_to_64 : shown (stepResult (scanned [0x48, 0x81, 0xC1, 0x00, 0x00, 0x00, 0x80] .m64 [] (some ⟨true, false, false, false⟩)))
    = some (.add, [.reg .rcx .w64, .imm ⟨.b64 0xFFFFFFFF80000000, true⟩], .o64, 7) := by decide
theorem test_V92_bad_size_before_imm : raised (stepResult (scanned [0x67, 0x83, 0x00, 0x01] .m32 [.addressSizeOverride] none))
    = some (.invalidAddressSize .m32 .a16, 3) := by decide
theorem test_V101_call_rip : shown (stepResult (start [0xFF, 0x15, 0x10, 0x00, 0x00, 0x00] .m64))
    = some (.callNear, [.mem ⟨.a64, .noBase, none, none, none, some (.b32 0x10), true⟩ .w32], .o32, 6) := by decide
theorem test_V104_callfar_reg : shown (stepResult (start [0xFF, 0xD8] .m32)) = some (.callFar, [.reg .eax .w32], .o32, 2) := by decide
theorem test_V106_reserved : raised (stepResult (start [0xFF, 0x38] .m32)) = some (.invalidExtension 0xFF 7, 1) := by decide
theorem test_V112_lea_index_only : shown (stepResult (start [0x8D, 0x04, 0x8D, 0x00, 0x10, 0x00, 0x00] .m32))
    = some (.lea, [.reg .eax .w32, .mem ⟨.a32, .sib, none, some .ecx, some .s4, some (.b32 0x1000), false⟩ .w32], .o32, 7) := by decide
theorem test_V118_push_r15 : shown (stepResult (scanned [0x49, 0x57] .m64 [] (some ⟨true, false, false, true⟩))) = some (.push, [.reg .r15 .w64], .o64, 2) := by decide
theorem test_V120_inc_di : shown (stepResult (start [0x47] .m16)) = some (.inc, [.reg .di .w16], .o16, 1) := by decide
theorem test_V121_dec_eax : shown (stepResult (start [0x48] .m32)) = some (.dec, [.reg .eax .w32], .o32, 1) := by decide
theorem test_V125_push_ss : shown (stepResult (start [0x16] .m64)) = some (.push, [.seg .ss], .o32, 1) := by decide
theorem test_V132_0F05 : raised (stepResult (start [0x0F, 0x05] .m64)) = some (.invalidOpcode 0x0F 0x05, 2) := by decide
theorem test_V136_escape_prefix : raised (stepResult (scanned [0xF3, 0x66, 0x0F, 0x1E, 0xFA] .m64 [.rep, .operandSizeOverride] none))
    = some (.invalidPrefix (.escape [.rep, .operandSizeOverride]), 3) := by decide
theorem test_V138_third_byte : raised (stepResult (scanned [0xF3, 0x0F, 0x1E, 0xFC] .m64 [.rep] none)) = some (.invalid3ByteOpcode 0x0F 0x1E 0xFC, 4) := by decide
theorem test_V16_fourth_prefix : raised (stepResult (scanned [0x66, 0x66, 0x66, 0x66, 0x01, 0xC8] .m32
    [.operandSizeOverride, .operandSizeOverride, .operandSizeOverride] none)) = some (.invalidPrefix (.fourth .operandSizeOverride), 4) := by decide
theorem test_V17_prefix_after_rex : raised (stepResult (scanned [0x48, 0x66, 0x01, 0xC8] .m64 [] (some ⟨true, false, false, false⟩)))
    = some (.invalidPrefix (.afterRex 0x66), 2) := by decide
theorem test_V18_second_rex : raised (stepResult (scanned [0x48, 0x48, 0x01, 0xC8] .m64 [] (some ⟨true, false, false, false⟩)))
    = some (.invalidPrefix (.afterRex 0x48), 2) := by decide
theorem test_V147_empty : raised (stepResult (start [] .m32)) = some (.notEnoughBytes 1, 0) := by decide
/-- 47_unknown.md R321 with 30_encoding.md R99: after the Unknown byte two Add Eb, Gb of two bytes each (log 23). -/
theorem test_R321_zero_bytes : (Txn.decodeOne (Buffer.ofBytes [0xE8, 0, 0, 0, 0]) 0 .m32).pos = 1
    ∧ (Txn.decodeOne (Buffer.ofBytes [0xE8, 0, 0, 0, 0]) 1 .m32).pos = 3
    ∧ (Txn.decodeOne (Buffer.ofBytes [0xE8, 0, 0, 0, 0]) 3 .m32).pos = 5 := by decide
theorem test_V146_unknown : shown (stepResult (start [0x8B, 0xC0] .m32)) = some (.unknown, [], .o32, 1) := by decide
theorem test_prefix_step_scans : step (start [0x66, 0x90] .m32) = .next (scanned [0x66, 0x90] .m32 [.operandSizeOverride] none) := by rfl
theorem test_rex_step_scans : step (start [0x48, 0x90] .m64) = .next (scanned [0x48, 0x90] .m64 [] (some ⟨true, false, false, false⟩)) := by rfl

/-! The same vectors through `Txn.decodeOne`, whole transactions. -/

theorem test_S10_fifteen_bytes : shown (some (Txn.decodeOne
    (Buffer.ofBytes [0x66, 0x26, 0xF0, 0x48, 0x81, 0x84, 0x24, 0x11, 0x22, 0x33, 0x44, 0x55, 0x66, 0x77, 0x88]) 0 .m64))
    = some (.add, [.mem ⟨.a64, .sib, some .rsp, none, none, some (.b32 0x44332211), false⟩ .w64,
        .imm ⟨.b64 0xFFFFFFFF88776655, true⟩], .o64, 15) := by decide
theorem test_V13_sib_x : shown (some (Txn.decodeOne (Buffer.ofBytes [0x4A, 0x01, 0x04, 0xC8]) 0 .m64))
    = some (.add, [.mem ⟨.a64, .sib, some .rax, some .r9, some .s8, none, false⟩ .w64, .reg .rax .w64], .o64, 4) := by decide
theorem test_V57_no_base : shown (some (Txn.decodeOne (Buffer.ofBytes [0x41, 0x01, 0x04, 0x25, 0, 0, 0, 0]) 0 .m64))
    = some (.add, [.mem ⟨.a64, .sib, none, none, none, some (.b32 0), false⟩ .w32, .reg .eax .w32], .o32, 8) := by decide
theorem test_V131_rex_escape : shown (some (Txn.decodeOne (Buffer.ofBytes [0xF3, 0x48, 0x0F, 0x1E, 0xFA]) 0 .m64))
    = some (.endBr64, [], .o64, 5) := by decide
theorem test_from_addressing : fromAddressing .E .b .m16 = .E .B ∧ fromAddressing .I .z .m64 = .I .Z ∧ fromAddressing .M .v .m32 = .M .V := by decide

/-! ## The two probes -/

theorem test_table_word_alu : decodeTableWord 8 0x31 = some .xorEvGv := by decide
theorem test_table_word_endbr : decodeTableWord 24 0x0F1EFB = some .endBr32 := by decide
theorem test_fetch_word_alu : stepResult (State.reset.withFetchWord 8 0x04)
    = some (.instruction ⟨.m32, [], none, .add, .I, [0x04], none, none, none, [.reg .al .w8, .imm ⟨.b8 0, true⟩], .o32, 2⟩ 2) := by decide
theorem test_fetch_word_endbr : shown (stepResult (State.reset.withFetchWord 24 0x0F1EFA)) = some (.endBr64, [], .o32, 4) := by decide

/-! ## Witnesses: a concrete state and operands that meet all the hypotheses of each statement together -/

theorem witness_DecodeOfEncode : (Instr.rex true false true false).wf = true ∧ (Instr.rex true false true false).fits ⟨.m64, [.lock]⟩ = true := by decide
theorem witness_EncodeOfDecode : decode ⟨.m32, []⟩ [0xFF, 0x30] = .ok .pushEv ∧ encode .pushEv = [0xFF, 0x30] ∧ Instr.pushEv.opLen = 1 := by decide
theorem witness_UnknownBytes : decode ⟨.m64, []⟩ [0x63] = .ok .unknown63 ∧ decode ⟨.m64, []⟩ [0x64] = .ok .prefixSegFS
    ∧ (Instr.unknown63, (0x63 : Byte)) ∈ rowsUnknown := by decide
/-- The last row of 10_state.md R23 without REX that has an 8-bit register, and the first that has none. -/
theorem witness_RegistersByNumber : regName 7 .w8 false = some .bh ∧ regName 8 .w8 false = none ∧ Width.w16 ≠ .w8 := by decide
theorem witness_PrefixBytes : ((Instr.prefixSegGS, Prefix.segGS, (0x65 : Byte)) ∈ rowsPrefix)
    ∧ ∀ x ∈ rowsPrefix, (0x68 : Byte) ≠ x.2.2 := by decide
theorem witness_RexBytes : ((0x40 : Byte) ≤ 0x4F ∧ (0x4F : Byte) ≤ 0x4F) ∧ ¬((0x40 : Byte) ≤ 0x50 ∧ (0x50 : Byte) ≤ 0x4F) := by decide
theorem witness_RexOnlyIn64 : Ctx.mode ⟨.m32, []⟩ ≠ .m64 ∧ Ctx.mode ⟨.m64, []⟩ = .m64 := by decide

/-- A state with one call pending. -/
def pending (bs : List Byte) (p : Nat) : State := { State.reset with calls := [⟨some (Buffer.ofBytes bs), .m64, p⟩] }

/-- 47_unknown.md R321 with R412: a transaction the caller starts at each of the four zero bytes is an Add Eb, Gb that needs a ModR/M
byte, which the last one lacks (log 23). -/
theorem test_R321_four_starts :
    (∀ p ∈ [1, 2, 3], shown (stepResult (pending [0xE8, 0, 0, 0, 0] p))
        = some (.add, [.mem ⟨.a64, .base, some .rax, none, none, none, false⟩ .w8, .reg .al .w8], .o32, 2))
      ∧ raised (stepResult (pending [0xE8, 0, 0, 0, 0] 4)) = some (.notEnoughBytes 1, 5) := by decide

theorem witness_StepRunsTheDecodedRow_none_pending :
    (start [0x90] .m32).tx.stage = .awaitingOpcode ∧ (start [0x90] .m32).calls = [] ∧ (start [0x90] .m32).pos ≤ (start [0x90] .m32).buf.len
      ∧ decode (start [0x90] .m32).ctx ((start [0x90] .m32).buf.mem.bytesAt 0 1) = .ok .unknown90 := by decide
theorem witness_StepRunsTheDecodedRow_inside :
    (scanned [0x48, 0x89] .m64 [] (some ⟨true, false, false, false⟩)).tx.stage = .haveRex
      ∧ (scanned [0x48, 0x89] .m64 [] (some ⟨true, false, false, false⟩)).atStart = false
      ∧ decode (scanned [0x48, 0x89] .m64 [] (some ⟨true, false, false, false⟩)).ctx
          ((scanned [0x48, 0x89] .m64 [] (some ⟨true, false, false, false⟩)).buf.mem.bytesAt 1 1) = .ok .movEvGv := by decide
theorem witness_StepRunsTheDecodedRow_pending :
    (pending [0x90, 0x16] 1).atStart = true ∧ (pending [0x90, 0x16] 1).calls = [⟨some (Buffer.ofBytes [0x90, 0x16]), .m64, 1⟩]
      ∧ decode (begun (pending [0x90, 0x16] 1) ⟨some (Buffer.ofBytes [0x90, 0x16]), .m64, 1⟩ []).ctx
          ((Buffer.ofBytes [0x90, 0x16]).mem.bytesAt 1 1) = .ok .pushSS := by decide
theorem witness_LookupPastTheEnd : (start [0x81] .m32).tx.stage = .awaitingOpcode ∧ (start [0x81] .m32).calls = []
    ∧ decode (start [0x81] .m32).ctx ((start [0x81] .m32).buf.mem.bytesAt 0 1) = .error (.notEnoughBytes 1) := by decide
theorem witness_StartBeyondBuffer : (pending [0x90] 2).atStart = true ∧ (Buffer.ofBytes [0x90]).len < 2
    ∧ step (pending [0x90] 2) = .refused (.startBeyondBuffer 2 1) := ⟨by decide, by decide, rfl⟩
theorem witness_PlacedWord : State.reset.buf.wf = true ∧ decodeTableWord 16 0x0F1E = some (.escapeRepThirdByte 0) := by decide

/-- The ModR/M record of a byte in 32-bit mode. -/
def rm32 (b : Byte) : ModRM := decodeModRM b .m32 none

theorem witness_EbGb : Txn.addressing (start [0x00, 0xC8] .m32).buf .m32 none .MR 1 = .ok ⟨some (rm32 0xC8), none, none⟩ 2
    ∧ (start [0x00, 0xC8] .m32).rmOperand (rm32 0xC8) none none .w8 = some (.reg .al .w8) := by decide
theorem witness_EvGv_mem : Txn.addressing (start [0x89, 0x18] .m32).buf .m32 none .MR 1 = .ok ⟨some (rm32 0x18), none, none⟩ 2
    ∧ (start [0x89, 0x18] .m32).rmOperand (rm32 0x18) none none .w32
        = some (.mem ⟨.a32, .base, some .eax, none, none, none, false⟩ .w32) := by decide
theorem witness_GbEb : Txn.addressing (start [0x02, 0xC8] .m32).buf .m32 none .RM 1 = .ok ⟨some (rm32 0xC8), none, none⟩ 2
    ∧ (start [0x02, 0xC8] .m32).rmOperand (rm32 0xC8) none none .w8 = some (.reg .al .w8) := by decide
theorem witness_GvEv : Txn.addressing (start [0x8D, 0xC0] .m32).buf .m32 none .RM 1 = .ok ⟨some (rm32 0xC0), none, none⟩ 2
    ∧ (start [0x8D, 0xC0] .m32).rmOperand (rm32 0xC0) none none .w32 = some (.reg .eax .w32) := by decide
theorem witness_ALIb : (start [0x04, 0x7F] .m32).buf.value? 1 1 = some 0x7F ∧ (start [0x04] .m32).buf.value? 1 1 = none := by decide
theorem witness_RAXIz : (start [0x05, 0x34, 0x12] .m16).eos = .o16 ∧ (start [0x05, 0x34, 0x12] .m16).buf.value? 1 2 = some 0x1234
    ∧ (start [0x05, 0x34] .m32).buf.value? 1 4 = none := by decide
theorem witness_EbIb : Txn.addressing (start [0x80, 0xC0, 0x12] .m32).buf .m32 none .MI 1 = .ok ⟨some (rm32 0xC0), none, none⟩ 2
    ∧ (start [0x80, 0xC0, 0x12] .m32).rmOperand (rm32 0xC0) none none .w8 = some (.reg .al .w8)
    ∧ (start [0x80, 0xC0, 0x12] .m32).buf.value? 2 1 = some 0x12 := by decide
theorem witness_EvIz : Txn.addressing (start [0x81, 0xC1, 0xFF, 0x7F, 0, 0] .m32).buf .m32 none .MI 1 = .ok ⟨some (rm32 0xC1), none, none⟩ 2
    ∧ (start [0x81, 0xC1, 0xFF, 0x7F, 0, 0] .m32).rmOperand (rm32 0xC1) none none .w32 = some (.reg .ecx .w32)
    ∧ (start [0x81, 0xC1, 0xFF, 0x7F, 0, 0] .m32).buf.value? 2 4 = some 0x7FFF := by decide
theorem witness_EvIb : Txn.addressing (start [0x83, 0xF0, 0xFF] .m32).buf .m32 none .MI 1 = .ok ⟨some (rm32 0xF0), none, none⟩ 2
    ∧ (start [0x83, 0xF0, 0xFF] .m32).rmOperand (rm32 0xF0) none none .w32 = some (.reg .eax .w32)
    ∧ (start [0x83, 0xF0, 0xFF] .m32).buf.value? 2 1 = some 0xFF := by decide
theorem witness_GroupFive : Txn.addressing (start [0xFF, 0xE0] .m32).buf .m32 none .M 1 = .ok ⟨some (rm32 0xE0), none, none⟩ 2
    ∧ (start [0xFF, 0xE0] .m32).rmOperand (rm32 0xE0) none none .w32 = some (.reg .eax .w32) := by decide
theorem witness_PrefixRows : (start [0x66] .m32).tx.rex = none ∧ (start [0x66] .m32).tx.prefixes.length < 3
    ∧ 3 ≤ (scanned [0x66, 0x66, 0x66, 0x66] .m32 [.operandSizeOverride, .operandSizeOverride, .operandSizeOverride] none).tx.prefixes.length
    ∧ (scanned [0x48, 0x66] .m64 [] (some ⟨true, false, false, false⟩)).tx.rex ≠ none := by decide
theorem witness_RexRow : (start [0x48] .m64).tx.rex = none
    ∧ (scanned [0x48, 0x48] .m64 [] (some ⟨true, false, false, false⟩)).tx.rex ≠ none := by decide
theorem witness_ShortAddressing : Txn.addressing (start [0x01, 0x05, 0x00] .m32).buf .m32 none .MR 1 = .raise (.notEnoughBytes 4) 2 := by decide
theorem witness_AddressSize_m32 : Txn.addressing (scanned [0x67, 0x01, 0x00] .m32 [.addressSizeOverride] none).buf .m32 none .MR 2
      = .ok ⟨some (rm32 0x00), none, none⟩ 3 ∧ modOf (rm32 0x00).raw ≠ 3
    ∧ Prefix.addressSizeOverride ∈ (scanned [0x67, 0x01, 0x00] .m32 [.addressSizeOverride] none).tx.prefixes := by decide
theorem witness_AddressSize_m16 : Txn.addressing (scanned [0x67, 0x01, 0x00] .m16 [.addressSizeOverride] none).buf .m16 none .MR 2
      = .ok ⟨some (decodeModRM 0x00 .m16 none), none, none⟩ 3 ∧ modOf (decodeModRM 0x00 .m16 none).raw ≠ 3 := by decide
theorem witness_AddressSize_resolves : modOf 0xC0 = 3 ∧ modOf 0x00 ≠ 3
    ∧ Prefix.addressSizeOverride ∉ (start [0x01, 0x00] .m16).tx.prefixes
    ∧ (start [0x01, 0x00] .m16).rmOperand (decodeModRM 0x00 .m16 none) none none .w16
      = some (.mem ⟨.a16, .pair16, some .bx, some .si, none, none, false⟩ .w16)
    ∧ (scanned [0x67, 0x01, 0x00] .m64 [.addressSizeOverride] none).rmOperand (decodeModRM 0x00 .m64 none) none none .w32
      = some (.mem ⟨.a32, .base, some .eax, none, none, none, false⟩ .w32)
    ∧ (scanned [0x67, 0x01, 0x00] .m32 [.addressSizeOverride] none).mode ≠ .m64
    ∧ (scanned [0x67, 0x01, 0x00] .m32 [.addressSizeOverride] none).rmOperand (rm32 0x00) none none .w32 = none := by decide
theorem witness_ShortImmediates : Txn.addressing (start [0x83, 0xC0] .m32).buf .m32 none .MI 1 = .ok ⟨some (rm32 0xC0), none, none⟩ 2
    ∧ (start [0x83, 0xC0] .m32).rmOperand (rm32 0xC0) none none .w8 ≠ none ∧ (start [0x83, 0xC0] .m32).buf.value? 2 1 = none
    ∧ (start [0x83, 0xC0] .m32).buf.value? 2 (izBytes (start [0x83, 0xC0] .m32).eos) = none := by decide
theorem witness_EscapeDispatch_no_prefix : (start [0x0F, 0x1E] .m32).buf.byte? 0 = some 0x0F ∧ (start [0x0F, 0x1E] .m32).calls = []
    ∧ (start [0x0F, 0x1E] .m32).buf.byte? 1 = some 0x1E ∧ (start [0x0F, 0x1E] .m32).tx.prefixes = [] := by decide
theorem witness_EscapeDispatch_other_prefix : (scanned [0x66, 0x0F] .m32 [.operandSizeOverride] none).buf.byte? 1 = some 0x0F
    ∧ ∃ q ∈ (scanned [0x66, 0x0F] .m32 [.operandSizeOverride] none).tx.prefixes, q ≠ .rep := by decide
theorem witness_EscapeDispatch_rep : (scanned [0xF3, 0x0F, 0x1E, 0xFA] .m32 [.rep] none).tx.stage = .awaitingOpcode
    ∧ (scanned [0xF3, 0x0F, 0x1E, 0xFA] .m32 [.rep] none).atStart = false
    ∧ (scanned [0xF3, 0x0F, 0x1E, 0xFA] .m32 [.rep] none).buf.byte? 1 = some 0x0F
    ∧ (∀ q ∈ (scanned [0xF3, 0x0F, 0x1E, 0xFA] .m32 [.rep] none).tx.prefixes, q = .rep)
    ∧ (scanned [0xF3, 0x0F, 0x1E, 0xFA] .m32 [.rep] none).buf.byte? 3 = some 0xFA
    ∧ (scanned [0xF3, 0x0F, 0x1E, 0xFB] .m32 [.rep] none).buf.byte? 3 = some 0xFB
    ∧ (scanned [0xF3, 0x0F, 0x1E, 0xFC] .m32 [.rep] none).buf.byte? 3 = some 0xFC
    ∧ (scanned [0xF3, 0x0F, 0x1F] .m32 [.rep] none).buf.byte? 2 = some 0x1F := by decide
theorem witness_exec_next : exec .prefixRep (start [0xF3] .m32) = .next (scanned [0xF3] .m32 [.rep] none)
    ∧ exec .reservedFF7 (start [0xFF, 0xF8] .m32)
        = .next ((start [0xFF, 0xF8] .m32).failed (.invalidExtension 0xFF 7) 1) := ⟨rfl, rfl⟩
theorem witness_AnError : ∃ t, exec .reservedFF7 (start [0xFF, 0xF8] .m32) = .next t
    ∧ t.results = .error (.invalidExtension 0xFF 7) 1 :: (start [0xFF, 0xF8] .m32).results := ⟨_, rfl, rfl⟩
theorem witness_AnError_step : (start [0x81] .m32).calls = [] ∧ ∃ t, step (start [0x81] .m32) = .next t
    ∧ t.results = .error (.notEnoughBytes 1) 1 :: (start [0x81] .m32).results := ⟨rfl, _, rfl, rfl⟩
theorem witness_CursorMoves : decode (start [0xFF, 0xF8] .m32).ctx (start [0xFF, 0xF8] .m32).fetch = .ok .reservedFF7 := by decide
theorem witness_Reads : (start [1, 2, 3] .m32).pos + 3 ≤ (start [1, 2, 3] .m32).buf.len ∧ (start [1, 2, 3] .m32).buf.len < (start [1, 2, 3] .m32).pos + 4 := by decide
theorem witness_AddressingReads_sib : Txn.addressing (Buffer.ofBytes [0x44, 0x24, 0x08]) .m32 none .MR 0
    = .ok ⟨some (rm32 0x44), some (decodeSib 0x24 1 .m32 none), some (.b8 8)⟩ 3 := by decide
theorem witness_AddressingReads_plain : Txn.addressing (Buffer.ofBytes [0xC0]) .m16 none .MR 0
    = .ok ⟨some (decodeModRM 0xC0 .m16 none), none, none⟩ 1 := by decide
theorem witness_ModRMByteOnly : Txn.addressing (Buffer.ofBytes [0xC0]) .m32 none .ZO 0 = .ok noAddressing 0
    ∧ Txn.addressing (Buffer.ofBytes [0xC0]) .m32 none .M 0 = .ok ⟨some (rm32 0xC0), none, none⟩ 1 := by decide
theorem witness_EffectiveSizes : Prefix.operandSizeOverride ∈ [Prefix.lock, .operandSizeOverride] ∧ Prefix.operandSizeOverride ∉ [Prefix.lock]
    ∧ Prefix.addressSizeOverride ∈ [Prefix.addressSizeOverride] ∧ Prefix.addressSizeOverride ∉ [Prefix.lock]
    ∧ rexBit Rex.w (some ⟨true, false, false, false⟩) = true ∧ rexBit Rex.w none = false := by decide
theorem witness_FamiliesAtSize : familyOf .spl = .stackPointer ∧ regWidth .spl = .w8 ∧ Reg.spl ∉ [Reg.ah, .ch, .dh, .bh]
    ∧ opSizeWidth .i32 = some .w32 := by decide
theorem witness_AddressingForms : modOf 0x04 ≠ 3 ∧ rm3Of 0x04 = 4 ∧ modOf 0x05 = 0 ∧ rm3Of 0x05 = 5 ∧ modOf 0x45 = 1 ∧ rm3Of 0x45 = 5
    ∧ modOf 0x06 = 0 ∧ rm3Of 0x06 = 6 ∧ modOf 0x86 = 2 ∧ rm3Of 0x86 = 6 ∧ modOf 0xC0 = 3 := by decide
theorem witness_Sib : (decodeModRM 0x04 .m64 none).form = .sib ∧ index3Of 0x24 = 4 ∧ index3Of 0x1C ≠ 4 ∧ modOf 0x04 = 0 ∧ base3Of 0x25 = 5
    ∧ base3Of 0x24 ≠ 5 := by decide
theorem witness_Widening : (Immediate.mk (.b8 0x80) true).signed = true ∧ (Sized.b8 0x80).width.bits < Width.w16.bits
    ∧ Width.w16.bits ≤ Width.w64.bits ∧ Width.w8.bits ≤ (Sized.b8 0x80).width.bits := by decide
theorem witness_TransactionIsDecodeOne : (start [0x66, 0x90] .m32).atStart = true ∧ (start [0x66, 0x90] .m32).calls = []
    ∧ (start [0x66, 0x90] .m32).pos ≤ (start [0x66, 0x90] .m32).buf.len ∧ (pending [0x90] 1).atStart = true
    ∧ (pending [0x90] 1).calls = [⟨some (Buffer.ofBytes [0x90]), .m64, 1⟩] ∧ 1 ≤ (Buffer.ofBytes [0x90]).len := by decide
theorem witness_SameInputs : (start [0x90] .m32).atStart = true ∧ ({ start [0x90] .m32 with results := [.error .invalidModRM 7] } : State).atStart = true
    ∧ start [0x90] .m32 ≠ { start [0x90] .m32 with results := [.error .invalidModRM 7] } := by decide

/-- A transaction under way with a prefix scanned meets the invariant. -/
theorem witness_Inv_inside : Inv (scanned [0x66, 0x90] .m32 [.operandSizeOverride] none)
    ∧ (scanned [0x66, 0x90] .m32 [.operandSizeOverride] none).atStart = false :=
  ⟨⟨by decide, by decide, by decide, by decide, by decide, by decide, by decide, by decide, by intro r h; cases h⟩, by decide⟩

/-- The invariant is met between two transactions too, and the step from there answers next. -/
theorem witness_Inv_start : Inv (start [0x66, 0x90] .m32)
    ∧ step (start [0x66, 0x90] .m32) = .next (scanned [0x66, 0x90] .m32 [.operandSizeOverride] none) :=
  ⟨⟨by decide, by decide, by decide, by decide, by decide, by decide, by decide, by decide, by intro r h; cases h⟩, rfl⟩

/-- Two buffers that hold the same instruction bytes at different places. -/
theorem witness_OwnBytes : Txn.decodeOne (Buffer.ofBytes [0x90, 0x31, 0xC0]) 1 .m64
      = .instruction ⟨.m64, [], none, .xor, .MR, [0x31], some (decodeModRM 0xC0 .m64 none), none, none,
          [.reg .eax .w32, .reg .eax .w32], .o32, 2⟩ 3
    ∧ 0 + 2 ≤ (Buffer.ofBytes [0x31, 0xC0, 0x07]).len
    ∧ (Buffer.ofBytes [0x31, 0xC0, 0x07]).mem.bytesAt 0 2 = (Buffer.ofBytes [0x90, 0x31, 0xC0]).mem.bytesAt 1 2 := by decide

end Sys2Proof.Tests
end

/-! SUPPORT. The statements of the family 10_state. Registers and families first. -/

namespace Sys2Proof.Machine

theorem familyOf_familyAt (f : Family) (w : Width) : familyOf (familyAt f w) = f := by
  cases f <;> cases w <;> rfl

theorem regWidth_familyAt (f : Family) (w : Width) : regWidth (familyAt f w) = w := by
  cases f <;> cases w <;> rfl

/-- At 8 bits a family gives its low-byte member (10_state.md R25). -/
theorem familyAt_w8_not_high (f : Family) : familyAt f .w8 ∉ [Reg.ah, .ch, .dh, .bh] := by
  cases f <;> decide

/-- Every register but the four high bytes is the member of its family of its width (10_state.md R24, R25). -/
theorem familyAt_familyOf_regWidth (r : Reg) (h : r ∉ [Reg.ah, .ch, .dh, .bh]) : familyAt (familyOf r) (regWidth r) = r := by
  cases r with
  | ah | ch | dh | bh => exact absurd (by decide) h
  | _ => rfl

theorem familyAtSize_of_width {z : OpSize} {w : Width} (h : opSizeWidth z = some w) (f : Family) :
    familyAtSize f z = familyAt f w := by
  simp only [familyAtSize, h, Option.getD_some]

/-- Settles O44: the member of a family and a width is unique, and `convert_with_size` goes through the family. -/
theorem familiesAtSize : Obligations.FamiliesAtSize := by
  intro f w r z
  refine ⟨familyOf_familyAt f w, regWidth_familyAt f w, familyAt_w8_not_high f, ?_, rfl, ?_⟩
  · rintro rfl rfl h
    exact familyAt_familyOf_regWidth r h
  · intro h
    exact ⟨familyAtSize_of_width h f, familyAtSize_of_width h (familyOf r)⟩

/-- Only at 8 bits does a REX byte change a register's name (10_state.md R23, R27). -/
theorem regName_rex_of_ne_w8 (n : BitVec 4) {w : Width} (h : w ≠ .w8) : regName n w true = regName n w false := by
  cases w with
  | w8 => exact absurd rfl h
  | w16 | w32 | w64 => rfl

theorem namedReg_of_regName {n : BitVec 4} {w : Width} {rexp : Bool} {r : Reg} (h : regName n w rexp = some r) :
    namedReg n w rexp = r := by
  simp only [namedReg, h, Option.getD_some]

/-- Settles O43: each column of the register table, read off row by row. -/
theorem registersByNumber : Obligations.RegistersByNumber :=
  ⟨by decide, by decide, by decide, by decide, by decide, fun n _ h => regName_rex_of_ne_w8 n h,
    fun _ _ _ _ h => namedReg_of_regName h⟩

end Sys2Proof.Machine

/-! ## What a buffer holds, and what a part of a transaction reads of it -/

namespace Sys2Proof.Machine

/-- The bytes `bs` stand in the buffer from offset `a` up to offset `z`. -/
structure Buffer.Holds (buf : Buffer) (a : Nat) (bs : List Byte) (z : Nat) : Prop where
  stop : z = a + bs.length
  inside : z ≤ buf.len
  bytes : buf.mem.bytesAt a bs.length = bs

namespace Buffer.Holds

variable {buf : Buffer} {a z : Nat} {bs cs : List Byte}

theorem nil (h : a ≤ buf.len) : buf.Holds a [] a := ⟨rfl, h, rfl⟩

theorem append {m : Nat} (h1 : buf.Holds a bs m) (h2 : buf.Holds m cs z) : buf.Holds a (bs ++ cs) z := by
  obtain ⟨rfl, -, hb⟩ := h1
  obtain ⟨rfl, hz, hc⟩ := h2
  exact ⟨by rw [List.length_append, Nat.add_assoc], hz, by rw [List.length_append, Memory.bytesAt_add, hb, hc]⟩

theorem split (h : buf.Holds a (bs ++ cs) z) : ∃ m, buf.Holds a bs m ∧ buf.Holds m cs z := by
  obtain ⟨hz, hi, hb⟩ := h
  rw [List.length_append] at hz hb
  rw [Memory.bytesAt_add] at hb
  obtain ⟨h1, h2⟩ := List.append_inj hb (by simp)
  exact ⟨a + bs.length, ⟨rfl, by omega, h1⟩, by omega, hi, h2⟩

/-- The place after the bytes is determined by the place before them. -/
theorem stop_unique {z' : Nat} (h : buf.Holds a bs z) (h' : buf.Holds a bs z') : z = z' := h.stop.trans h'.stop.symm

/-- What stands after a part of the bytes is the rest of them. -/
theorem rest {m : Nat} (h1 : buf.Holds a bs m) (h : buf.Holds a (bs ++ cs) z) : buf.Holds m cs z := by
  obtain ⟨m', h2, h3⟩ := h.split
  rwa [h1.stop_unique h2]

theorem byte {b : Byte} (h : buf.byte? a = some b) : buf.Holds a [b] (a + 1) := by
  obtain ⟨hl, hr⟩ := Buffer.byte?_eq_some.mp h
  exact ⟨rfl, hl, by rw [List.length_singleton, Memory.bytesAt_succ, hr, Memory.bytesAt_zero]⟩

theorem byte?_eq {b : Byte} (h : buf.Holds a (b :: bs) z) : buf.byte? a = some b := by
  obtain ⟨rfl, hi, hb⟩ := h
  rw [List.length_cons] at hi hb
  exact Buffer.byte?_eq_some.mpr ⟨by omega, (List.cons.inj hb).1⟩

end Buffer.Holds

/-- The bytes of a prefix list and a REX record (30_encoding.md R80). -/
def scannedBytes (ps : List Prefix) (rex : Option Rex) : List Byte := ps.map Prefix.byte ++ rex.toList.map Rex.raw

theorem scannedBytes_length (ps : List Prefix) (rex : Option Rex) :
    (scannedBytes ps rex).length = ps.length + rex.toList.length := by
  simp only [scannedBytes, List.length_append, List.length_map]

namespace Txn

@[simp] theorem Got.ok_bind {α β : Type} (a : α) (p : Nat) (k : α → Nat → Got β) : (Got.ok a p).bind k = k a p := rfl

@[simp] theorem Got.raise_bind {α β : Type} (e : DecodeError) (p : Nat) (k : α → Nat → Got β) :
    (Got.raise e p).bind k = .raise e p := rfl

theorem Got.bind_assoc {α β γ : Type} (g : Got α) (k : α → Nat → Got β) (h : β → Nat → Got γ) :
    (g.bind k).bind h = g.bind fun a p => (k a p).bind h := by
  cases g <;> rfl

/-- `Parses pre g P`: run with the bytes `pre` read since the start of the transaction, the part `g` of `decode_one` (of buffer,
start and position) reads on to some bytes `bs` that fit its value by `P`, and wherever a buffer holds `bs` it gives the same value
and stops just after them; an error it raises stands inside the buffer, not before the position, and is not InvalidModRM. -/
structure Parses {α : Type} (pre : List Byte) (g : Buffer → Nat → Nat → Got α) (P : α → List Byte → Prop) : Prop where
  ok : ∀ {buf start p a q}, buf.Holds start pre p → g buf start p = .ok a q →
    ∃ bs, P a (pre ++ bs) ∧ buf.Holds start (pre ++ bs) q
      ∧ ∀ {buf' start' p' q'}, buf'.Holds start' pre p' → buf'.Holds start' (pre ++ bs) q' → g buf' start' p' = .ok a q'
  raise : ∀ {buf start p e q}, buf.Holds start pre p → g buf start p = .raise e q →
    p ≤ q ∧ q ≤ buf.len ∧ e ≠ .invalidModRM

namespace Parses

variable {α β : Type} {pre : List Byte} {g : Buffer → Nat → Nat → Got α} {P Q : α → List Byte → Prop}

theorem mono (h : Parses pre g P) (hPQ : ∀ a bs, P a bs → Q a bs) : Parses pre g Q where
  ok hp hg :=
    let ⟨bs, ha, hb, hr⟩ := h.ok hp hg
    ⟨bs, hPQ _ _ ha, hb, hr⟩
  raise := h.raise

/-- Sequencing: the second part goes on after the bytes of the first. -/
theorem bind {k : α → Buffer → Nat → Nat → Got β} {R : β → List Byte → Prop} (h : Parses pre g P)
    (hk : ∀ a bs, P a bs → Parses bs (k a) R) :
    Parses pre (fun buf start p => (g buf start p).bind fun a q => k a buf start q) R where
  ok := by
    intro buf start p b q hp hg
    cases hx : g buf start p with
    | raise e m => rw [hx] at hg; cases hg
    | ok a m =>
      rw [hx] at hg
      obtain ⟨bs, ha, hm, hr⟩ := h.ok hp hx
      obtain ⟨cs, hb, hq, hr2⟩ := (hk a _ ha).ok hm hg
      rw [List.append_assoc] at hb hq
      refine ⟨bs ++ cs, hb, hq, ?_⟩
      intro buf' start' p' q' hp' hq'
      rw [← List.append_assoc] at hq'
      obtain ⟨m', hm', -⟩ := hq'.split
      rw [hr hp' hm']
      exact hr2 hm' hq'
  raise := by
    intro buf start p e q hp hg
    cases hx : g buf start p with
    | raise e' m =>
      rw [hx] at hg
      cases hg
      exact h.raise hp hx
    | ok a m =>
      rw [hx] at hg
      obtain ⟨bs, ha, hm, -⟩ := h.ok hp hx
      obtain ⟨hq, hl, he⟩ := (hk a _ ha).raise hm hg
      have := (hp.rest hm).stop
      exact ⟨by omega, hl, he⟩

/-- A value that is computed from the bytes read so far, of which it may use the number. -/
theorem ret {f : Nat → α} (h : P (f pre.length) pre) : Parses pre (fun _ start p => .ok (f (p - start)) p) P where
  ok := by
    rintro buf start p _ q hp ⟨⟩
    have hf : ∀ {buf' : Buffer} {start' p' : Nat}, buf'.Holds start' pre p' → f (p' - start') = f pre.length := by
      intro _ _ _ h'
      rw [h'.stop, Nat.add_sub_cancel_left]
    refine ⟨[], ?_, ?_, ?_⟩
    · rwa [hf hp, List.append_nil]
    · rwa [List.append_nil]
    · intro buf' start' p' q' hp' hq'
      rw [List.append_nil] at hq'
      rw [hf hp, hf hp', hp'.stop_unique hq']
  raise := by rintro _ _ _ _ _ _ ⟨⟩

theorem pure {a : α} (h : P a pre) : Parses pre (fun _ _ p => .ok a p) P := ret (f := fun _ => a) h

theorem throw {e : DecodeError} (h : e ≠ .invalidModRM) : Parses pre (fun _ _ p => .raise e p) P where
  ok := by rintro _ _ _ _ _ _ ⟨⟩
  raise := by
    rintro _ _ _ _ _ hp ⟨⟩
    exact ⟨Nat.le_refl _, hp.inside, h⟩

/-- A read of `n` bytes at once. -/
theorem read {r : Buffer → Nat → Got α} (n : Nat) (f : List Byte → α) {e : DecodeError} (he : e ≠ .invalidModRM)
    (hr : ∀ buf p, r buf p = if p + n ≤ buf.len then .ok (f (buf.mem.bytesAt p n)) (p + n) else .raise e p)
    (hP : ∀ bs, bs.length = n → P (f bs) (pre ++ bs)) : Parses pre (fun buf _ p => r buf p) P where
  ok := by
    intro buf start p a q hp hg
    rw [hr] at hg
    split at hg
    · rename_i hl
      cases hg
      have hn := Memory.bytesAt_length buf.mem n p
      refine ⟨buf.mem.bytesAt p n, hP _ hn, hp.append ⟨by rw [hn], hl, by rw [hn]⟩, ?_⟩
      intro buf' start' p' q' hp' hq'
      obtain ⟨rfl, hi, hb⟩ := hp'.rest hq'
      rw [hn] at hi hb ⊢
      rw [hr, if_pos hi, hb]
    · cases hg
  raise := by
    intro buf start p e' q hp hg
    rw [hr] at hg
    split at hg
    · cases hg
    · cases hg
      exact ⟨Nat.le_refl _, hp.inside, he⟩

/-- A peek is a read that the part after it makes good: that part reads the peeked byte itself. -/
theorem peek {k : Byte → Buffer → Nat → Nat → Got α}
    (hk : ∀ m, Parses pre (k m) fun a bs => P a bs ∧ pre.length < bs.length) :
    Parses pre (fun buf start p => (peek8 buf p).bind fun m q => k m buf start q) P where
  ok := by
    intro buf start p a q hp hg
    unfold peek8 at hg
    cases hb : buf.byte? p with
    | none => rw [hb] at hg; cases hg
    | some m =>
      rw [hb] at hg
      obtain ⟨bs, ⟨ha, hlen⟩, hq, hr⟩ := (hk m).ok hp hg
      refine ⟨bs, ha, hq, ?_⟩
      intro buf' start' p' q' hp' hq'
      cases bs with
      | nil => rw [List.append_nil] at hlen; exact absurd hlen (Nat.lt_irrefl _)
      | cons x xs =>
        have hx : some m = some x := hb.symm.trans (hp.rest hq).byte?_eq
        cases hx
        unfold peek8
        rw [(hp'.rest hq').byte?_eq]
        exact hr hp' hq'
  raise := by
    intro buf start p e q hp hg
    unfold peek8 at hg
    cases hb : buf.byte? p with
    | none =>
      rw [hb] at hg
      cases hg
      exact ⟨Nat.le_refl _, hp.inside, DecodeError.noConfusion⟩
    | some m => rw [hb] at hg; exact (hk m).raise hp hg

end Parses

/-! ## The reads -/

theorem parses_read8 (pre : List Byte) : Parses pre (fun buf _ p => read8 buf p) fun b bs => bs = pre ++ [b] := by
  refine Parses.read 1 (fun bs => bs.headD 0) (e := .notEnoughBytes 1) DecodeError.noConfusion ?_ ?_
  · intro buf p
    by_cases h : p < buf.len
    · simp only [read8, Buffer.byte?, if_pos h, if_pos (Nat.succ_le_of_lt h)]
      rfl
    · simp only [read8, Buffer.byte?, if_neg h, if_neg (mt Nat.lt_of_succ_le h)]
  · intro bs h
    obtain ⟨b, rfl⟩ := List.length_eq_one_iff.mp h
    rfl

theorem width_sizedOfNat (w : Width) (n : Nat) : (sizedOfNat w n).width = w := by cases w <;> rfl

theorem toNat_sizedOfNat (w : Width) (n : Nat) : (sizedOfNat w n).toNat = n % 256 ^ w.bytes := by
  cases w <;> exact BitVec.toNat_ofNat _ _

/-- A little-endian value has the bytes it was read from. -/
theorem bytesOfNat_sizedOfNat {w : Width} {bs : List Byte} (h : bs.length = w.bytes) :
    bytesOfNat w.bytes (sizedOfNat w (leValue bs)).toNat = bs := by
  rw [toNat_sizedOfNat, bytesOfNat_mod, ← h, bytesOfNat_leValue]

theorem parses_readSized (pre : List Byte) (w : Width) : Parses pre (fun buf _ p => readSized buf w p)
    fun v bs => v.width = w ∧ bs = pre ++ bytesOfNat w.bytes v.toNat := by
  refine Parses.read w.bytes (fun bs => sizedOfNat w (leValue bs)) (e := .notEnoughBytes w.bytes) DecodeError.noConfusion ?_ ?_
  · intro buf p
    by_cases h : p + w.bytes ≤ buf.len
    · simp only [readSized, Buffer.value?, if_pos h]
    · simp only [readSized, Buffer.value?, if_neg h]
  · intro bs h
    exact ⟨width_sizedOfNat w _, by rw [bytesOfNat_sizedOfNat h]⟩

/-! ## Prefixes and REX -/

theorem byte_of_classifyPrefix {b : Byte} {p : Prefix} (h : classifyPrefix b = some p) : p.byte = b := by
  unfold classifyPrefix at h
  have hp := List.find?_some h
  exact eq_of_beq hp

theorem raw_of_classifyRex {b : Byte} {r : Rex} (h : classifyRex b = some r) : r.raw = b := by
  have hall : ∀ b : Byte, ∀ r ∈ classifyRex b, r.raw = b := by decide
  exact hall b r h

theorem parses_scan : ∀ (room : Nat) (ps : List Prefix), Parses (ps.map Prefix.byte) (fun buf _ p => scan buf room ps p)
    fun r bs => bs = r.1.map Prefix.byte ++ [r.2] ∧ r.1.length ≤ ps.length + room
  | 0, ps => by
    refine (parses_read8 _).bind ?_
    rintro b _ rfl
    cases classifyPrefix b with
    | none => exact .pure ⟨rfl, Nat.le_refl _⟩
    | some q => exact .throw DecodeError.noConfusion
  | room + 1, ps => by
    refine (parses_read8 _).bind ?_
    rintro b _ rfl
    cases hb : classifyPrefix b with
    | none => exact .pure ⟨rfl, Nat.le_add_right _ _⟩
    | some q =>
      have h := parses_scan room (ps ++ [q])
      rw [List.map_append, List.map_singleton, byte_of_classifyPrefix hb] at h
      refine h.mono ?_
      rintro r bs ⟨rfl, hl⟩
      rw [List.length_append, List.length_singleton] at hl
      exact ⟨rfl, by omega⟩

theorem parses_rexCheck (mode : CpuMode) (ps : List Prefix) (b : Byte) :
    Parses (ps.map Prefix.byte ++ [b]) (fun buf _ p => rexCheck buf mode b p)
      fun r bs => bs = scannedBytes ps r.1 ++ [r.2] ∧ (r.1.isSome → mode = .m64) := by
  unfold rexCheck
  split
  · rename_i r hr
    refine (parses_read8 _).bind ?_
    rintro c _ rfl
    split
    · exact .throw DecodeError.noConfusion
    · refine .pure ⟨?_, fun _ => rfl⟩
      simp only [scannedBytes, Option.toList_some, List.map_singleton, raw_of_classifyRex hr]
  · refine .pure ⟨?_, fun h => absurd h Bool.false_ne_true⟩
    simp only [scannedBytes, Option.toList_none, List.map_nil, List.append_nil]

end Txn

end Sys2Proof.Machine

/-! ## The parts of a transaction after the prefixes -/

namespace Sys2Proof.Machine

/-- The bytes the records of the ModR/M stage stand for (30_encoding.md R80). -/
def Txn.Addressing.bytes (a : Txn.Addressing) : List Byte :=
  a.modrm.toList.map ModRM.raw ++ a.sib.toList.map Sib.raw ++ a.disp.toList.flatMap fun d => bytesOfNat d.width.bytes d.toNat

namespace Txn

theorem parses_readSib (pre : List Byte) (mode : CpuMode) (rex : Option Rex) (m : ModRM) :
    Parses pre (fun buf _ p => readSib buf mode rex m p) fun x bs => bs = pre ++ x.toList.map Sib.raw := by
  unfold readSib
  split
  · refine (parses_read8 _).bind ?_
    rintro b _ rfl
    exact .pure rfl
  · exact .pure (List.append_nil _).symm

/-- A displacement has four bytes at most (10_state.md R38, 40_decode_pipeline.md R142). -/
theorem dispWidth_bytes_le {m : ModRM} {x : Option Sib} {w : Width} (h : dispWidth m x = some w) : w.bytes ≤ 4 := by
  cases w with
  | w64 =>
    have hmod : ∀ mod, dispOfMod mod .w32 ≠ some .w64 ∧ dispOfMod mod .w16 ≠ some .w64 := by decide
    unfold dispWidth at h
    split at h
    case h_6 =>
      split at h
      · split at h
        · cases h
        · exact absurd h (hmod _).1
      · exact absurd h (hmod _).1
    case h_4 => exact absurd h (hmod _).1
    case h_5 => exact absurd h (hmod _).2
    all_goals cases h
  | w8 | w16 | w32 => decide

theorem parses_readDisp (pre : List Byte) (m : ModRM) (x : Option Sib) :
    Parses pre (fun buf _ p => readDisp buf m x p) fun d bs =>
      bs = pre ++ (d.toList.flatMap fun d => bytesOfNat d.width.bytes d.toNat)
        ∧ (d.toList.flatMap fun d => bytesOfNat d.width.bytes d.toNat).length ≤ 4 := by
  unfold readDisp
  cases hw : dispWidth m x with
  | none => exact .pure ⟨(List.append_nil _).symm, Nat.zero_le _⟩
  | some w =>
    refine (parses_readSized _ w).bind ?_
    rintro d _ ⟨rfl, rfl⟩
    refine .pure ?_
    simp only [Option.toList_some, List.flatMap_singleton, bytesOfNat_length]
    exact ⟨trivial, dispWidth_bytes_le hw⟩

theorem hasModRM_iff (enc : Encoding) : enc.hasModRM = true ↔ enc = .M ∨ enc = .MI ∨ enc = .MR ∨ enc = .RM := by
  cases enc <;> decide

/-- How many bytes the ModR/M stage reads at most. -/
def addressingMax (enc : Encoding) : Nat := if enc.hasModRM then 6 else 0

theorem parses_addressing (pre : List Byte) (mode : CpuMode) (rex : Option Rex) (enc : Encoding) :
    Parses pre (fun buf _ p => addressing buf mode rex enc p) fun a bs =>
      bs = pre ++ a.bytes ∧ a.modrm.isSome = enc.hasModRM ∧ a.bytes.length ≤ addressingMax enc := by
  unfold addressing
  by_cases h : enc.hasModRM = true
  · simp only [if_pos ((hasModRM_iff enc).mp h)]
    refine (parses_read8 _).bind ?_
    rintro b _ rfl
    refine (parses_readSib _ mode rex _).bind ?_
    rintro x _ rfl
    refine (parses_readDisp _ _ x).bind ?_
    rintro d _ ⟨rfl, hd⟩
    refine .pure ⟨?_, h.symm, ?_⟩
    · simp only [Addressing.bytes, decodeModRM, Option.toList_some, List.map_singleton, List.append_assoc]
    · have hx : x.toList.length ≤ 1 := by cases x <;> simp
      simp only [Addressing.bytes, addressingMax, if_pos h, Option.toList_some, List.map_singleton, List.length_append,
        List.length_map, List.length_singleton]
      omega
  · simp only [if_neg (mt (hasModRM_iff enc).mpr h)]
    exact .pure ⟨(List.append_nil _).symm, (Bool.eq_false_iff.mpr h).symm, Nat.zero_le _⟩

/-! ## Operands -/

theorem setWidth_signExtend {n m : Nat} (v : BitVec n) (h : n ≤ m) : (v.signExtend m).setWidth n = v := by
  refine BitVec.eq_of_getLsbD_eq fun i hi => ?_
  simp only [BitVec.getLsbD_setWidth, BitVec.getLsbD_signExtend, hi, decide_eq_true (Nat.lt_of_lt_of_le hi h), decide_true,
    Bool.true_and, if_true]

/-- Sign extension keeps the value in the low bytes (00_scope.md R8). -/
theorem toNat_sext_mod (v : Sized) (w : Width) : (sext v w).toNat % 256 ^ v.width.bytes = v.toNat := by
  have hlow : ∀ {n m : Nat} (v : BitVec n), n ≤ m → (v.signExtend m).toNat % 2 ^ n = v.toNat := fun v h => by
    rw [← BitVec.toNat_setWidth, setWidth_signExtend v h]
  unfold sext
  split
  case h_7 => cases v <;> exact Nat.mod_eq_of_lt (BitVec.isLt _)
  all_goals exact hlow _ (by decide)

/-- Widening keeps the bytes an immediate was read from as its low bytes (40_decode_pipeline.md R157). -/
theorem bytesOfNat_sext (v : Sized) (w : Width) :
    bytesOfNat v.width.bytes (sext v w).toNat = bytesOfNat v.width.bytes v.toNat := by
  rw [← bytesOfNat_mod, toNat_sext_mod]

theorem signed_immediateAfter (ops : List ResolvedOperand) (v : Sized) : (immediateAfter ops v).signed = true := by
  unfold immediateAfter
  split <;> rfl

/-- An immediate stands for the bytes it was read from, whatever operand is before it. -/
theorem operandBytes_immediateAfter (ops : List ResolvedOperand) (v : Sized) :
    operandBytes v.width (.imm (immediateAfter ops v)) = bytesOfNat v.width.bytes v.toNat := by
  unfold immediateAfter
  split
  · exact bytesOfNat_sext v _
  · rfl

theorem immWidth_bytes_le (c : SizeClass) (eos : OperandSize) : (immWidth c eos).bytes ≤ 4 := by
  cases c <;> cases eos <;> decide

/-- How many bytes a template reads at most: only an immediate reads any, when the ModR/M stage is over. -/
def templateMax : Template → Nat
  | .I _ => 4
  | .E _ | .M _ | .G _ | .O _ | .Fixed _ | .Family _ _ | .Seg _ => 0

/-- What the operands of some templates are: as many, with the bytes read for them, signed immediates only. -/
structure OperandsOf (w : Width) (ts : List Template) (os : List ResolvedOperand) : Prop where
  length_eq : os.length = ts.length
  bytes_le : (os.flatMap (operandBytes w)).length ≤ (ts.map templateMax).sum
  signed : ∀ i, ResolvedOperand.imm i ∈ os → i.signed = true

theorem OperandsOf.nil (w : Width) : OperandsOf w [] [] := ⟨rfl, Nat.le_refl _, fun _ h => absurd h List.not_mem_nil⟩

theorem OperandsOf.cons {w : Width} {t : Template} {ts : List Template} {o : ResolvedOperand} {os : List ResolvedOperand}
    (h1 : OperandsOf w [t] [o]) (h2 : OperandsOf w ts os) : OperandsOf w (t :: ts) (o :: os) where
  length_eq := congrArg (· + 1) h2.length_eq
  bytes_le := by
    have hb1 := h1.bytes_le
    have hb2 := h2.bytes_le
    simp only [List.flatMap_cons, List.flatMap_nil, List.append_nil, List.map_cons, List.map_nil, List.sum_cons, List.sum_nil,
      List.length_append] at hb1 hb2 ⊢
    omega
  signed i hi := by
    rcases List.mem_cons.mp hi with rfl | hi
    · exact h1.signed i List.mem_cons_self
    · exact h2.signed i hi

/-- An operand that is read from no byte of its own. -/
theorem OperandsOf.plain {w : Width} {t : Template} {o : ResolvedOperand} (h : ∀ i, o ≠ .imm i) : OperandsOf w [t] [o] where
  length_eq := rfl
  bytes_le := by
    cases o with
    | imm i => exact absurd rfl (h i)
    | reg | seg | mem => exact Nat.zero_le _
  signed i hi := absurd (List.mem_singleton.mp hi).symm (h i)

/-- What a template asks of the records it is resolved from: a ModR/M record if it reads one (10_state.md R49), and the width its
immediate is read at. -/
def Resolvable (r : Ready) (w : Width) (t : Template) : Prop :=
  (t.readsModRM = true → r.addr.modrm.isSome = true) ∧ ∀ c, t = .I c → immWidth c r.eos = w

theorem parses_resolveRM (pre : List Byte) (r : Ready) (m : ModRM) (c : SizeClass) :
    Parses pre (fun _ _ p => resolveRM r m c p) fun o bs => bs = pre ∧ ∀ i, o ≠ .imm i := by
  unfold resolveRM
  split
  · exact .pure ⟨rfl, fun _ => ResolvedOperand.noConfusion⟩
  · split
    · exact .pure ⟨rfl, fun _ => ResolvedOperand.noConfusion⟩
    · exact .throw DecodeError.noConfusion
  · exact .throw DecodeError.noConfusion

theorem parses_resolve (pre : List Byte) (r : Ready) (ops : List ResolvedOperand) (w : Width) (t : Template)
    (ht : Resolvable r w t) :
    Parses pre (fun buf _ p => resolve buf r ops t p) fun o bs => bs = pre ++ operandBytes w o ∧ OperandsOf w [t] [o] := by
  obtain ⟨hm, hw⟩ := ht
  have hplain : ∀ (o : ResolvedOperand) (bs : List Byte), (bs = pre ∧ ∀ i, o ≠ .imm i) →
      bs = pre ++ operandBytes w o ∧ OperandsOf w [t] [o] := by
    rintro o _ ⟨rfl, ho⟩
    refine ⟨?_, .plain ho⟩
    cases o with
    | imm i => exact absurd rfl (ho i)
    | reg | seg | mem => exact (List.append_nil _).symm
  cases t with
  | E c | M c =>
    obtain ⟨m, hm⟩ := Option.isSome_iff_exists.mp (hm rfl)
    simp only [resolve, hm]
    exact (parses_resolveRM pre r m c).mono hplain
  | G c =>
    obtain ⟨m, hm⟩ := Option.isSome_iff_exists.mp (hm rfl)
    simp only [resolve, hm]
    exact .pure (hplain _ _ ⟨rfl, fun _ => ResolvedOperand.noConfusion⟩)
  | I c =>
    obtain rfl := hw c rfl
    refine (parses_readSized _ _).bind ?_
    rintro v _ ⟨hv, rfl⟩
    have hb : operandBytes (immWidth c r.eos) (.imm (immediateAfter ops v)) = bytesOfNat (immWidth c r.eos).bytes v.toNat := by
      rw [← hv]; exact operandBytes_immediateAfter ops v
    refine .pure ⟨by rw [hb], rfl, ?_, ?_⟩
    · rw [List.flatMap_singleton, hb, bytesOfNat_length]
      exact immWidth_bytes_le c r.eos
    · intro i hi
      obtain rfl := ResolvedOperand.imm.inj (List.mem_singleton.mp hi)
      exact signed_immediateAfter ops v
  | O c | Fixed q | Family f c | Seg q => exact .pure (hplain _ _ ⟨rfl, fun _ => ResolvedOperand.noConfusion⟩)

theorem parses_operands (r : Ready) (w : Width) : ∀ (ts : List Template) (ops : List ResolvedOperand) (pre : List Byte),
    (∀ t ∈ ts, Resolvable r w t) →
    Parses pre (fun buf _ p => operands buf r ts ops p) fun os bs =>
      ∃ new, os = ops ++ new ∧ bs = pre ++ new.flatMap (operandBytes w) ∧ OperandsOf w ts new
  | [], ops, pre, _ => .pure ⟨[], (List.append_nil _).symm, (List.append_nil _).symm, .nil w⟩
  | t :: ts, ops, pre, h => by
    refine (parses_resolve pre r ops w t (h t List.mem_cons_self)).bind ?_
    rintro o _ ⟨rfl, ho⟩
    refine (parses_operands r w ts (ops ++ [o]) _ fun t ht => h t (List.mem_cons_of_mem _ ht)).mono ?_
    rintro os bs ⟨new, rfl, rfl, hnew⟩
    exact ⟨o :: new, by rw [List.append_assoc]; rfl, by rw [List.append_assoc]; rfl, ho.cons hnew⟩

end Txn

end Sys2Proof.Machine

/-! ## From the opcode to the Instruction -/

namespace Sys2Proof.Machine

/-- Whether the row of these opcode bytes and this encoding has a class Z immediate: `Instruction.hasIz` before there is an
Instruction. -/
def rowHasIz (opbytes : List Byte) (enc : Encoding) : Bool :=
  opbytes == [0x81#8] || (enc == .I && opbytes.any fun b => bits b 0 3 == 5#3)

/-- An immediate template has the class by which `Instruction.immReadWidth` counts it. -/
def immClassAgrees (iz : Bool) : Template → Bool
  | .I c => c == if iz then .Z else .B
  | .E _ | .M _ | .G _ | .O _ | .Fixed _ | .Family _ _ | .Seg _ => true

/-- What the opcode lookup guarantees of opcode bytes and entry: a well-formed entry, immediates of the counted class, one opcode
byte at least, and no more than 11 bytes from the opcode on (30_encoding.md R115). -/
def entryFits (opbytes : List Byte) (e : Entry) : Bool :=
  e.wf && e.templates.all (immClassAgrees (rowHasIz opbytes e.encoding)) && decide (1 ≤ opbytes.length)
    && decide (opbytes.length + Txn.addressingMax e.encoding + (e.templates.map Txn.templateMax).sum ≤ 11)

/-- The bytes of an Instruction from its opcode on. -/
def Instruction.rowBytes (ins : Instruction) : List Byte :=
  ins.opbytes ++ (⟨ins.modrm, ins.sib, ins.disp⟩ : Txn.Addressing).bytes ++ ins.operands.flatMap (operandBytes ins.immReadWidth)

theorem Instruction.bytes_eq (ins : Instruction) : ins.bytes = scannedBytes ins.prefixes ins.rex ++ ins.rowBytes := by
  simp only [Instruction.bytes, Instruction.rowBytes, scannedBytes, Txn.Addressing.bytes, List.append_assoc]

/-- What an Instruction read after the bytes `pre` is, when `bs` are all the bytes of its transaction. -/
structure Instruction.After (mode : CpuMode) (ps : List Prefix) (rex : Option Rex) (pre : List Byte) (ins : Instruction)
    (bs : List Byte) : Prop where
  mode_eq : ins.mode = mode
  prefixes_eq : ins.prefixes = ps
  rex_eq : ins.rex = rex
  bytes_eq : bs = pre ++ ins.rowBytes
  rowBytes_pos : 1 ≤ ins.rowBytes.length
  rowBytes_le : ins.rowBytes.length ≤ 11
  length_eq : ins.length = bs.length
  operands_le : ins.operands.length ≤ Config.maxOperands
  modrm_iff : ins.modrm.isSome = ins.encoding.hasModRM
  opsize_eq : ins.opsize = eosOf mode ps rex
  signed : ∀ i, ResolvedOperand.imm i ∈ ins.operands → i.signed = true

namespace Txn

theorem resolvable_of_entryFits {opbytes : List Byte} {e : Entry} (h : entryFits opbytes e = true) {r : Ready}
    (hm : r.addr.modrm.isSome = e.encoding.hasModRM) {t : Template} (ht : t ∈ e.templates) :
    Resolvable r (immWidth (if rowHasIz opbytes e.encoding then .Z else .B) r.eos) t := by
  simp only [entryFits, Entry.wf, Bool.and_eq_true, Bool.or_eq_true, List.all_eq_true, Bool.not_eq_true', decide_eq_true_eq] at h
  obtain ⟨⟨⟨⟨-, hread⟩, himm⟩, -⟩, -⟩ := h
  refine ⟨fun htr => ?_, ?_⟩
  · rcases hread with hread | hread
    · exact hm.trans hread
    · exact absurd htr (Bool.eq_false_iff.mp (hread t ht))
  · rintro c rfl
    rw [← eq_of_beq (himm _ ht)]

theorem parses_fromEntry (pre : List Byte) (mode : CpuMode) (ps : List Prefix) (rex : Option Rex) (b : Byte) (opbytes : List Byte)
    (e : Entry) (he : entryFits opbytes e = true) :
    Parses (pre ++ opbytes) (fun buf start p => fromEntry buf start mode ps rex b opbytes e p) fun ins bs =>
      ins.After mode ps rex pre bs ∧ (e.encoding.hasModRM = true → (pre ++ opbytes).length < bs.length) := by
  unfold fromEntry
  refine (parses_addressing _ mode rex e.encoding).bind ?_
  rintro a _ ⟨rfl, hm, ha⟩
  refine (parses_operands ⟨mode, rex, b, a, eosOf mode ps rex, easOf mode ps⟩
    (immWidth (if rowHasIz opbytes e.encoding then .Z else .B) (eosOf mode ps rex)) e.templates [] _
    fun t ht => resolvable_of_entryFits he hm ht).bind ?_
  rintro os _ ⟨_, rfl, rfl, hos⟩
  simp only [entryFits, Entry.wf, Bool.and_eq_true, decide_eq_true_eq] at he
  obtain ⟨⟨⟨⟨hlen, -⟩, -⟩, hpos⟩, hmax⟩ := he
  have hb := hos.bytes_le
  refine .ret (f := fun n => (⟨mode, ps, rex, e.identity, e.encoding, opbytes, a.modrm, a.sib, a.disp, os,
      eosOf mode ps rex, n⟩ : Instruction))
    ⟨⟨rfl, rfl, rfl, ?_, ?_, ?_, rfl, hos.length_eq.trans_le hlen, hm, rfl, hos.signed⟩, ?_⟩
  · simp only [Instruction.rowBytes, List.append_assoc]
    rfl
  · simp only [Instruction.rowBytes, List.length_append]
    omega
  · show (opbytes ++ a.bytes
      ++ os.flatMap (operandBytes (immWidth (if rowHasIz opbytes e.encoding then .Z else .B) _))).length ≤ 11
    simp only [List.length_append]
    omega
  · intro hr
    obtain ⟨m, hm⟩ := Option.isSome_iff_exists.mp (hm.trans hr)
    simp only [List.length_append, Addressing.bytes, hm, Option.toList_some, List.map_singleton, List.length_singleton]
    omega

/-! ## The opcode lookup -/

theorem entryFits_plainEntry : ∀ b : Byte, entryFits [b] (plainEntry b) = true := by decide

theorem parses_escape (pre : List Byte) (ps : List Prefix) :
    Parses (pre ++ [0x0F]) (fun buf _ p => escape buf ps p) fun oe bs => bs = pre ++ oe.1 ∧ entryFits oe.1 oe.2 = true := by
  unfold escape
  split
  · refine (parses_read8 _).bind ?_
    rintro b2 _ rfl
    exact .throw DecodeError.noConfusion
  · split
    · exact .throw DecodeError.noConfusion
    · refine (parses_read8 _).bind ?_
      rintro b2 _ rfl
      split
      · exact .throw DecodeError.noConfusion
      · rename_i h1E
        obtain rfl := not_not.mp h1E
        refine (parses_read8 _).bind ?_
        rintro b3 _ rfl
        split
        · rename_i h; subst h
          exact .pure ⟨by simp only [List.append_assoc]; rfl, by decide⟩
        · split
          · rename_i h; subst h
            exact .pure ⟨by simp only [List.append_assoc]; rfl, by decide⟩
          · exact .throw DecodeError.noConfusion

theorem parses_convertWithExt (pre : List Byte) (b : Byte) (ext : BitVec 3)
    (hb : b = 0x80 ∨ b = 0x81 ∨ b = 0x82 ∨ b = 0x83 ∨ b = 0xFF) :
    Parses pre (fun _ _ p => convertWithExt b ext p) fun e bs =>
      bs = pre ∧ entryFits [b] e = true ∧ e.encoding.hasModRM = true := by
  unfold convertWithExt
  rcases hb with rfl | rfl | rfl | rfl | rfl
  · exact .pure ⟨rfl, rfl, rfl⟩
  · exact .pure ⟨rfl, rfl, rfl⟩
  · exact .pure ⟨rfl, rfl, rfl⟩
  · exact .pure ⟨rfl, rfl, rfl⟩
  · show Parses pre (fun _ _ p => if ext = 7 then _ else _) _
    split
    · exact .throw DecodeError.noConfusion
    · split
      · exact .pure ⟨rfl, rfl, rfl⟩
      · exact .pure ⟨rfl, rfl, rfl⟩

theorem parses_committed (pre : List Byte) (mode : CpuMode) (ps : List Prefix) (rex : Option Rex) (b : Byte) :
    Parses (pre ++ [b]) (fun buf start p => committed buf start mode ps rex b p) (Instruction.After mode ps rex pre) := by
  unfold committed opcode
  by_cases h0F : b = 0x0F
  · subst h0F
    simp only [if_true]
    refine (parses_escape pre ps).bind ?_
    rintro ⟨ob, e⟩ _ ⟨rfl, he⟩
    exact (parses_fromEntry pre mode ps rex 0x0F ob e he).mono fun _ _ h => h.1
  · by_cases hx : b = 0x80 ∨ b = 0x81 ∨ b = 0x82 ∨ b = 0x83 ∨ b = 0xFF
    · simp only [if_neg h0F, if_pos hx, Got.bind_assoc, Got.ok_bind]
      refine .peek fun m => (parses_convertWithExt _ b (bits m 3 3) hx).bind ?_
      rintro e _ ⟨rfl, he, hm⟩
      exact (parses_fromEntry pre mode ps rex b [b] e he).mono fun _ _ h => ⟨h.1, h.2 hm⟩
    · simp only [if_neg h0F, if_neg hx, Got.ok_bind]
      exact (parses_fromEntry pre mode ps rex b [b] _ (entryFits_plainEntry b)).mono fun _ _ h => h.1

/-! ## A whole transaction -/

/-- The rest of a transaction that has scanned the prefixes `ps`, with `room` for more: what `decodeOne` does from there. -/
def fromScan (buf : Buffer) (start : Nat) (mode : CpuMode) (room : Nat) (ps : List Prefix) (p : Nat) : Got Instruction :=
  (scan buf room ps p).bind fun pb p => (rexCheck buf mode pb.2 p).bind fun rb p => committed buf start mode pb.1 rb.1 rb.2 p

/-- A completed Instruction: its records stand for all the bytes of the transaction, and it is well formed. -/
structure Decoded (mode : CpuMode) (ins : Instruction) (bs : List Byte) : Prop where
  bytes_eq : ins.bytes = bs
  mode_eq : ins.mode = mode
  length_pos : 1 ≤ ins.length
  wf : ins.Wf

theorem decoded_of_after {mode : CpuMode} {ps : List Prefix} {rex : Option Rex} {ins : Instruction} {bs : List Byte}
    (h : ins.After mode ps rex (scannedBytes ps rex) bs) (hps : ps.length ≤ Config.prefixCap) (hr : rex.isSome → mode = .m64) :
    Decoded mode ins bs := by
  have hb : ins.bytes = bs := by rw [h.bytes_eq, ins.bytes_eq, h.prefixes_eq, h.rex_eq]
  have hlen : ins.length = ps.length + rex.toList.length + ins.rowBytes.length := by
    rw [h.length_eq, h.bytes_eq, List.length_append, scannedBytes_length]
  have h1 := h.rowBytes_pos
  have h2 := h.rowBytes_le
  have h3 : rex.toList.length ≤ 1 := by cases rex <;> simp
  have h4 : ps.length ≤ 3 := hps
  refine ⟨hb, h.mode_eq, by omega, ?_, ?_, ?_, h.operands_le, ?_, h.modrm_iff, ?_, h.signed⟩
  · rw [h.length_eq, hb]
  · show ins.length ≤ 15
    omega
  · rwa [h.prefixes_eq]
  · rwa [h.rex_eq, h.mode_eq]
  · rw [h.mode_eq, h.prefixes_eq, h.rex_eq, h.opsize_eq]

theorem parses_fromScan (mode : CpuMode) (room : Nat) (ps : List Prefix) (h : ps.length + room ≤ Config.prefixCap) :
    Parses (ps.map Prefix.byte) (fun buf start p => fromScan buf start mode room ps p) (Decoded mode) := by
  unfold fromScan
  refine (parses_scan room ps).bind ?_
  rintro ⟨ps', b⟩ _ ⟨rfl, hl⟩
  refine (parses_rexCheck mode ps' b).bind ?_
  rintro ⟨rex, b'⟩ _ ⟨rfl, hr⟩
  exact (parses_committed (scannedBytes ps' rex) mode ps' rex b').mono fun _ _ hi => decoded_of_after hi (hl.trans h) hr

theorem decodeOne_eq_instruction {buf : Buffer} {start : Nat} {mode : CpuMode} {ins : Instruction} {p : Nat} :
    decodeOne buf start mode = .instruction ins p ↔ fromScan buf start mode Config.prefixCap [] start = .ok ins p := by
  show (match fromScan buf start mode Config.prefixCap [] start with
    | .ok ins p => Result.instruction ins p
    | .raise e p => .error e p) = _ ↔ _
  cases fromScan buf start mode Config.prefixCap [] start <;> simp

/-- Beyond the buffer no Instruction is decoded. -/
theorem start_le_of_decodeOne {buf : Buffer} {start : Nat} {mode : CpuMode} {ins : Instruction} {p : Nat}
    (h : decodeOne buf start mode = .instruction ins p) : start ≤ buf.len := by
  by_contra hl
  have hb : buf.byte? start = none := Buffer.byte?_eq_none.mpr (by omega)
  rw [decodeOne_eq_instruction] at h
  simp only [fromScan, Config.prefixCap, scan, read8, hb, Got.raise_bind, reduceCtorEq] at h

/-- What `decode_one` returns: an Instruction whose bytes stand in the buffer from the start to the position after it, the same for
every buffer and start where those bytes stand (10_state.md R47, R48, R51). -/
theorem decodeOne_instruction {buf : Buffer} {start : Nat} {mode : CpuMode} {ins : Instruction} {p : Nat}
    (h : decodeOne buf start mode = .instruction ins p) :
    Decoded mode ins ins.bytes ∧ buf.Holds start ins.bytes p
      ∧ ∀ {buf' start' p'}, buf'.Holds start' ins.bytes p' → decodeOne buf' start' mode = .instruction ins p' := by
  obtain ⟨bs, hd, hh, hr⟩ := (parses_fromScan mode Config.prefixCap [] (Nat.le_refl _)).ok
    (Buffer.Holds.nil (start_le_of_decodeOne h)) (decodeOne_eq_instruction.mp h)
  obtain rfl : ins.bytes = bs := hd.bytes_eq
  refine ⟨hd, hh, fun h' => decodeOne_eq_instruction.mpr (hr (.nil ?_) h')⟩
  have := h'.stop
  have := h'.inside
  omega

end Txn

open Txn

/-- Settles O58: the bytes of the Instruction stand in the other buffer too, and `decode_one` reads nothing else. -/
theorem ownBytesDecodeToTheSameInstruction : Obligations.OwnBytesDecodeToTheSameInstruction := by
  intro buf start mode ins p h buf' start' hl hb
  obtain ⟨hd, hh, hr⟩ := decodeOne_instruction h
  have hlen := hd.wf.length_eq
  refine hr ⟨by rw [hlen], hl, ?_⟩
  rw [← hlen, hb, hlen, hh.bytes]

/-- The number of an Instruction's bytes, record by record (10_state.md R47). -/
theorem Instruction.bytes_length (ins : Instruction) :
    ins.bytes.length = ins.prefixes.length + (if ins.rex.isSome then 1 else 0) + ins.opbytes.length
      + (if ins.modrm.isSome then 1 else 0) + (if ins.sib.isSome then 1 else 0)
      + (ins.disp.map fun d => d.width.bytes).getD 0
      + (ins.operands.map fun o => (operandBytes ins.immReadWidth o).length).sum := by
  have hopt : ∀ {α : Type} (f : α → Byte) (o : Option α), (o.toList.map f).length = if o.isSome then 1 else 0 := by
    intro α f o; cases o <;> rfl
  have hdisp : (ins.disp.toList.flatMap fun d => bytesOfNat d.width.bytes d.toNat).length
      = (ins.disp.map fun d => d.width.bytes).getD 0 := by
    cases ins.disp with
    | none => rfl
    | some d => simp [bytesOfNat_length]
  simp only [Instruction.bytes, List.length_append, hopt, hdisp, List.length_map, List.length_flatMap]

/-- Settles O57: the Instruction's bytes stand between the start and the position, and each record has its number of them. -/
theorem decodedBytesAreTheBytesRead : Obligations.DecodedBytesAreTheBytesRead := by
  intro buf start mode ins p h
  obtain ⟨hd, hh, -⟩ := decodeOne_instruction h
  have hlen := hd.wf.length_eq
  exact ⟨by rw [hlen, ins.bytes_length], by rw [hlen, hh.stop], hh.inside, by rw [hlen, hh.bytes]⟩

/-- REX.W = 1 gives the size 64 whatever the prefixes (40_decode_pipeline.md R147). -/
theorem Instruction.Wf.opsize_of_rexW {ins : Instruction} (h : ins.Wf) (hw : rexBit Rex.w ins.rex = true) : ins.opsize = .o64 := by
  have hs : ins.rex.isSome = true := by
    cases hr : ins.rex with
    | none => rw [hr] at hw; cases hw
    | some r => rfl
  rw [h.opsize_eq, eosOf, effOpSize, if_pos ⟨h.rex_mode hs, hw⟩]

/-- Settles O59: what `decode_one` returns is well formed; `0x90` and a full `Add Ev, Iz` have the two extreme lengths. -/
theorem decodedInstructionsAreWellFormed : Obligations.DecodedInstructionsAreWellFormed := by
  refine ⟨?_, ⟨_, rfl, rfl⟩, ⟨_, rfl, rfl⟩⟩
  intro buf start mode ins p h
  obtain ⟨hd, -, -⟩ := decodeOne_instruction h
  exact ⟨hd.wf, hd.mode_eq, hd.length_pos, hd.wf.length_le, hd.wf.opsize_of_rexW⟩

end Sys2Proof.Machine

/-! ## What one lookup does, by the byte at the cursor -/

namespace Sys2Proof.Machine

open Txn

theorem runPrefix_afterRex {s : State} (p : Prefix) (h : s.tx.rex.isSome = true) :
    runPrefix p s = .next (s.failed (.invalidPrefix (.afterRex p.byte)) (s.pos + 1)) := by
  rw [runPrefix, if_pos h, runError_eq]

theorem runPrefix_fourth {s : State} (p : Prefix) (h : s.tx.rex = none) (hc : Config.prefixCap ≤ s.tx.prefixes.length) :
    runPrefix p s = .next (s.failed (.invalidPrefix (.fourth p)) (s.pos + 1)) := by
  simp only [runPrefix, h, Option.isSome_none, Bool.false_eq_true, if_false, if_pos hc, runError_eq]

theorem runPrefix_room {s : State} (p : Prefix) (h : s.tx.rex = none) (hc : s.tx.prefixes.length < Config.prefixCap) :
    runPrefix p s = .next ((s.advance 1).pushPrefix p) := by
  simp only [runPrefix, h, Option.isSome_none, Bool.false_eq_true, if_false, if_neg (Nat.not_le.mpr hc)]

theorem runRex_afterRex {s : State} (r : Rex) (h : s.tx.rex.isSome = true) :
    runRex r s = .next (s.failed (.invalidPrefix (.afterRex r.raw)) (s.pos + 1)) := by
  rw [runRex, if_pos h, runError_eq]

theorem runRex_first {s : State} (r : Rex) (h : s.tx.rex = none) : runRex r s = .next ((s.advance 1).setRex r) := by
  simp only [runRex, h, Option.isSome_none, Bool.false_eq_true, if_false]

/-- What one lookup at the cursor can do (40_decode_pipeline.md R132 to R136). -/
inductive LookupDoes (s : State) : Out → Prop where
  | missing (h : s.buf.byte? s.pos = none) : LookupDoes s (.next (s.failed (.notEnoughBytes 1) s.pos))
  | misplaced {b : Byte} (h : s.buf.byte? s.pos = some b) (info : PrefixInfo) :
      LookupDoes s (.next (s.failed (.invalidPrefix info) (s.pos + 1)))
  | legacy {p : Prefix} (h : s.buf.byte? s.pos = some p.byte) (hr : s.tx.rex = none)
      (hc : s.tx.prefixes.length < Config.prefixCap) : LookupDoes s (.next ((s.advance 1).pushPrefix p))
  | rex {r : Rex} (h : s.buf.byte? s.pos = some r.raw) (hm : s.mode = .m64) (hr : s.tx.rex = none) :
      LookupDoes s (.next ((s.advance 1).setRex r))
  | opcode {b : Byte} (h : s.buf.byte? s.pos = some b) :
      LookupDoes s (.next (s.ended (committed s.buf s.tx.start s.mode s.tx.prefixes s.tx.rex b (s.pos + 1))))

theorem lookupAndRun_does (s : State) : LookupDoes s (lookupAndRun s) := by
  cases hb : s.buf.byte? s.pos with
  | none =>
    rw [lookupAndRun_none hb]
    exact .missing hb
  | some b =>
    cases hp : classifyPrefix b with
    | some p =>
      rw [lookupAndRun_prefix hb hp]
      cases hr : s.tx.rex with
      | some r =>
        rw [runPrefix_afterRex p (by rw [hr]; rfl)]
        exact .misplaced hb _
      | none =>
        rcases Nat.lt_or_ge s.tx.prefixes.length Config.prefixCap with hc | hc
        · rw [runPrefix_room p hr hc]
          exact .legacy (by rw [byte_of_classifyPrefix hp, hb]) hr hc
        · rw [runPrefix_fourth p hr hc]
          exact .misplaced hb _
    | none =>
      by_cases hx : s.mode = .m64 ∧ (classifyRex b).isSome = true
      · obtain ⟨hm, hx⟩ := hx
        obtain ⟨r, hc⟩ := Option.isSome_iff_exists.mp hx
        rw [lookupAndRun_rex hb hm hc]
        cases hr : s.tx.rex with
        | some r' =>
          rw [runRex_afterRex r (by rw [hr]; rfl)]
          exact .misplaced hb _
        | none =>
          rw [runRex_first r hr]
          exact .rex (by rw [raw_of_classifyRex hc, hb]) hm hr
      · rw [lookupAndRun_committed hb hp fun hm => Option.not_isSome_iff_eq_none.mp fun hc => hx ⟨hm, hc⟩]
        exact .opcode hb

/-! ## The cursor -/

/-- The start enters a transaction's result only through the length (40_decode_pipeline.md R160). -/
theorem Txn.committed_start (buf : Buffer) (start start' : Nat) (mode : CpuMode) (ps : List Prefix) (rex : Option Rex) (b : Byte)
    (p : Nat) :
    committed buf start mode ps rex b p
      = (committed buf start' mode ps rex b p).bind fun ins q => .ok { ins with length := q - start } q := by
  simp only [committed, fromEntry, Got.bind_assoc, Got.ok_bind]

/-- The position a part of `decode_one` ends at. -/
def Txn.Got.pos {α : Type} : Got α → Nat
  | .ok _ p => p
  | .raise _ p => p

@[simp] theorem State.ended_pos (s : State) (g : Got Instruction) : (s.ended g).pos = g.pos := by cases g <;> rfl

/-- From a committed byte on, the position moves forward inside the buffer (10_state.md R39, 20_memory.md R65). -/
theorem Txn.committed_pos {buf : Buffer} {p : Nat} {b : Byte} (h : buf.byte? p = some b) (start : Nat) (mode : CpuMode)
    (ps : List Prefix) (rex : Option Rex) :
    p + 1 ≤ (committed buf start mode ps rex b (p + 1)).pos ∧ (committed buf start mode ps rex b (p + 1)).pos ≤ buf.len := by
  have hp := parses_committed [] mode ps rex b
  have hh : buf.Holds p ([] ++ [b]) (p + 1) := .byte h
  rw [committed_start buf start p]
  cases hg : committed buf p mode ps rex b (p + 1) with
  | ok ins q =>
    obtain ⟨bs, -, hq, -⟩ := hp.ok hh hg
    have := (hh.rest hq).stop
    exact ⟨by simp only [Got.ok_bind, Got.pos]; omega, hq.inside⟩
  | raise e q =>
    obtain ⟨h1, h2, -⟩ := hp.raise hh hg
    exact ⟨h1, h2⟩

/-- A lookup with a byte at the cursor moves forward inside the buffer. -/
theorem lookupAndRun_pos {s t : State} {b : Byte} (hb : s.buf.byte? s.pos = some b) (h : lookupAndRun s = .next t) :
    s.pos ≤ t.pos ∧ t.pos ≤ s.buf.len := by
  have hlt := (Buffer.byte?_eq_some.mp hb).1
  have hd := lookupAndRun_does s
  rw [h] at hd
  cases hd with
  | missing hn => rw [hb] at hn; cases hn
  | misplaced | legacy | rex => exact ⟨Nat.le_succ _, hlt⟩
  | opcode hb' =>
    obtain ⟨h1, h2⟩ := committed_pos hb' s.tx.start s.mode s.tx.prefixes s.tx.rex
    rw [State.ended_pos]
    exact ⟨Nat.le_of_succ_le h1, h2⟩

/-- Settles O37: a row the lookup finds is what `lookupAndRun` runs, and there is a byte at the cursor. -/
theorem cursorMovesForwardInsideTheBuffer : Obligations.CursorMovesForwardInsideTheBuffer := by
  intro i s t hd he
  have hrun : lookupAndRun s = .next t := by simp only [lookupAndRun, hd, he]
  cases hb : s.buf.byte? s.pos with
  | none => rw [fetch_none hb] at hd; cases hd
  | some b => exact lookupAndRun_pos hb hrun

/-! ## The invariant -/

namespace Inv

variable {s : State}

/-- Between two transactions the invariant says nothing of the transient state. -/
theorem idle (htx : s.tx = Transient.init s.pos) (hbuf : s.buf.wf = true)
    (hcalls : ∀ c ∈ s.calls, ∀ b, c.buf = some b → b.wf = true) (hpos : s.pos ≤ s.buf.len) (hres : ∀ r ∈ s.results, r.Wf) :
    Inv s where
  buf_wf := hbuf
  calls_wf := hcalls
  pos_le := hpos
  tx_scanned := by rw [htx]; rfl
  prefixes_le := by rw [htx]; exact Nat.zero_le _
  rex_mode h := by rw [htx] at h; cases h
  pos_eq := by rw [htx]; rfl
  bytes_eq := by rw [htx]; simp [Transient.init]
  results_wf := hres

/-- The buffer holds the scanned bytes between the start and the cursor. -/
theorem holds (h : Inv s) : s.buf.Holds s.tx.start (scannedBytes s.tx.prefixes s.tx.rex) s.pos := by
  have hp := h.pos_eq
  have hb := h.bytes_eq
  have hl : s.pos - s.tx.start = (scannedBytes s.tx.prefixes s.tx.rex).length := by
    rw [scannedBytes_length]; omega
  rw [hl] at hb
  exact ⟨by rw [scannedBytes_length, hp, Nat.add_assoc], h.pos_le, hb⟩

/-- A transaction under way: what the invariant asks of the new transient state when the caller's side stays. -/
theorem scan (h : Inv s) {t : State} {ps : List Prefix} {rex : Option Rex} (hbuf : t.buf = s.buf) (hcalls : t.calls = s.calls)
    (hres : t.results = s.results) (hmode : t.mode = s.mode) (htx : t.tx = Transient.scanned s.tx.start ps rex)
    (hps : ps.length ≤ Config.prefixCap) (hrex : rex.isSome → s.mode = .m64)
    (hh : s.buf.Holds s.tx.start (scannedBytes ps rex) t.pos) : Inv t where
  buf_wf := by rw [hbuf]; exact h.buf_wf
  calls_wf := by rw [hcalls]; exact h.calls_wf
  pos_le := by rw [hbuf]; exact hh.inside
  tx_scanned := by rw [htx]; rfl
  prefixes_le := by rw [htx]; exact hps
  rex_mode := by rw [htx, hmode]; exact hrex
  pos_eq := by
    have := hh.stop
    rw [scannedBytes_length, ← Nat.add_assoc] at this
    rw [htx]; exact this
  bytes_eq := by
    have hl : t.pos - s.tx.start = (scannedBytes ps rex).length := by rw [hh.stop, Nat.add_sub_cancel_left]
    have hb := hh.bytes
    rw [← hl] at hb
    rw [htx, hbuf]
    exact hb
  results_wf := by rw [hres]; exact h.results_wf

theorem failed (h : Inv s) {e : DecodeError} {p : Nat} (hp : p ≤ s.buf.len) (he : e ≠ .invalidModRM) : Inv (s.failed e p) :=
  idle rfl h.buf_wf h.calls_wf hp fun r hr => by
    rcases List.mem_cons.mp hr with rfl | hr
    · exact he
    · exact h.results_wf r hr

theorem returned (h : Inv s) {ins : Instruction} {p : Nat} (hp : p ≤ s.buf.len) (hw : ins.Wf) (hl : ins.length ≤ p) :
    Inv (s.returned ins p) :=
  idle rfl h.buf_wf h.calls_wf hp fun r hr => by
    rcases List.mem_cons.mp hr with rfl | hr
    · exact ⟨hw, hl⟩
    · exact h.results_wf r hr

/-- A prefix byte at the cursor is recorded. -/
theorem pushPrefix (h : Inv s) {p : Prefix} (hb : s.buf.byte? s.pos = some p.byte) (hr : s.tx.rex = none)
    (hc : s.tx.prefixes.length < Config.prefixCap) : Inv ((s.advance 1).pushPrefix p) := by
  refine h.scan (ps := s.tx.prefixes ++ [p]) (rex := none) rfl rfl rfl rfl ?_ ?_ (fun h => absurd h Bool.false_ne_true) ?_
  · rw [State.pushPrefix_tx, State.advance_tx, h.tx_scanned, hr]; rfl
  · rw [List.length_append]; exact hc
  · have := h.holds.append (.byte hb)
    rw [hr] at this
    simpa [scannedBytes] using this

/-- A REX byte at the cursor is recorded. -/
theorem setRex (h : Inv s) {r : Rex} (hb : s.buf.byte? s.pos = some r.raw) (hm : s.mode = .m64) (hr : s.tx.rex = none) :
    Inv ((s.advance 1).setRex r) := by
  refine h.scan (ps := s.tx.prefixes) (rex := some r) rfl rfl rfl rfl ?_ h.prefixes_le (fun _ => hm) ?_
  · rw [State.setRex_tx, State.advance_tx, h.tx_scanned, hr]; rfl
  · have := h.holds.append (.byte hb)
    rw [hr] at this
    simpa [scannedBytes] using this

/-- A committed opcode byte at the cursor ends the transaction with a well-formed result. -/
theorem committed (h : Inv s) {b : Byte} (hb : s.buf.byte? s.pos = some b) :
    Inv (s.ended (Txn.committed s.buf s.tx.start s.mode s.tx.prefixes s.tx.rex b (s.pos + 1))) := by
  have hp := parses_committed (scannedBytes s.tx.prefixes s.tx.rex) s.mode s.tx.prefixes s.tx.rex b
  have hh := h.holds.append (.byte hb)
  cases hg : Txn.committed s.buf s.tx.start s.mode s.tx.prefixes s.tx.rex b (s.pos + 1) with
  | ok ins q =>
    obtain ⟨bs, ha, hq, -⟩ := hp.ok hh hg
    have hd := decoded_of_after ha h.prefixes_le h.rex_mode
    have hlen := ha.length_eq
    have := hq.stop
    exact h.returned hq.inside hd.wf (by omega)
  | raise e q =>
    obtain ⟨-, hl, he⟩ := hp.raise hh hg
    exact h.failed hl he

/-- The invariant is kept by a lookup. -/
theorem lookupAndRun (h : Inv s) {t : State} (ht : lookupAndRun s = .next t) : Inv t := by
  have hd := lookupAndRun_does s
  rw [ht] at hd
  cases hd with
  | missing => exact h.failed h.pos_le DecodeError.noConfusion
  | misplaced hb => exact h.failed (Buffer.byte?_eq_some.mp hb).1 DecodeError.noConfusion
  | legacy hb hr hc => exact h.pushPrefix hb hr hc
  | rex hb hm hr => exact h.setRex hb hm hr
  | opcode hb => exact h.committed hb

/-- From a state that meets the invariant a step goes on to a lookup. -/
theorem stepInside (h : Inv s) : Machine.stepInside s = Machine.lookupAndRun s := by
  refine stepInside_lookup ?_
  rw [h.tx_scanned]
  cases s.tx.rex with
  | none => exact .inl rfl
  | some r => exact .inr rfl

/-- Beginning a transaction keeps the invariant (70_reset_and_hazards.md R452). -/
theorem takeCall (h : Inv s) {t : State} (ht : takeCall s = .next t) : Inv t := by
  unfold Machine.takeCall at ht
  split at ht
  · split at ht
    · rename_i c rest hcalls
      unfold beginCall at ht
      dsimp only at ht
      split at ht
      · rename_i hl
        cases ht
        have hwf := h.calls_wf
        rw [hcalls] at hwf
        refine idle rfl ?_ (fun d hd => hwf d (List.mem_cons_of_mem _ hd)) hl h.results_wf
        cases hc : c.buf with
        | none => exact h.buf_wf
        | some b => exact hwf c List.mem_cons_self b hc
      · cases ht
    · split at ht
      · cases ht; exact h
      · cases ht
  · cases ht; exact h

end Inv

/-- Settles O55: beginning a call keeps the invariant, and so does each thing a lookup can do. -/
theorem everyStepKeepsTheInvariant : Obligations.EveryStepKeepsTheInvariant := by
  intro s t h hs
  unfold step at hs
  split at hs
  · rename_i s1 hs1
    have h1 := h.takeCall hs1
    rw [h1.stepInside] at hs
    exact h1.lookupAndRun hs
  · cases hs
  · cases hs

end Sys2Proof.Machine

/-! ## Steps to the end of a transaction -/

namespace Sys2Proof.Machine

open Txn

theorem run_succ {s t : State} (h : step s = .next t) (k : Nat) :
    Host.Core.run Sys2Proof.core (k + 1) s = Host.Core.run Sys2Proof.core k t := by
  have h' : Sys2Proof.core.step s = .next t := h
  simp only [Host.Core.run, h']

theorem run_one {s t : State} (h : step s = .next t) : Host.Core.run Sys2Proof.core 1 s = .next t := run_succ h 0

/-- Where a step begins with the lookup at the cursor: a transaction is under way, or none is and no call is pending. -/
structure AtLookup (s : State) (start : Nat) (ps : List Prefix) (rex : Option Rex) : Prop where
  tx_eq : s.tx = Transient.scanned start ps rex
  calls_eq : s.atStart = true → s.calls = [] ∧ s.pos ≤ s.buf.len

theorem AtLookup.step_eq {s : State} {start : Nat} {ps : List Prefix} {rex : Option Rex} (h : AtLookup s start ps rex) :
    step s = lookupAndRun s := by
  refine step_lookup ?_ h.calls_eq
  rw [h.tx_eq]
  cases rex with
  | none => exact .inl rfl
  | some r => exact .inr rfl

/-- A transaction that has recorded a prefix or a REX byte has begun. -/
theorem AtLookup.of_scanned {s : State} {start : Nat} {ps : List Prefix} {rex : Option Rex}
    (h : s.tx = Transient.scanned start ps rex) (hne : ps ≠ [] ∨ rex ≠ none) : AtLookup s start ps rex where
  tx_eq := h
  calls_eq hs := by
    rw [atStart_iff, h] at hs
    rcases hne with hne | hne
    · exact absurd (congrArg Transient.prefixes hs) hne
    · exact absurd (congrArg Transient.rex hs) hne

/-- What `decode_one` does after a REX byte (40_decode_pipeline.md R134). -/
def fromRex (buf : Buffer) (start : Nat) (ps : List Prefix) (r : Rex) (p : Nat) : Got Instruction :=
  (Txn.read8 buf p).bind fun b p =>
    if (classifyPrefix b).isSome ∨ (classifyRex b).isSome then .raise (.invalidPrefix (.afterRex b)) p
    else committed buf start .m64 ps (some r) b p

/-- After a REX byte one step ends the transaction. -/
theorem step_fromRex {s : State} {start : Nat} {ps : List Prefix} {r : Rex} (hm : s.mode = .m64)
    (h : AtLookup s start ps (some r)) : step s = .next (s.ended (fromRex s.buf start ps r s.pos)) := by
  have hrex : s.tx.rex = some r := by rw [h.tx_eq]; rfl
  have hsome : s.tx.rex.isSome = true := by rw [hrex]; rfl
  rw [h.step_eq]
  unfold fromRex Txn.read8
  cases hb : s.buf.byte? s.pos with
  | none => exact lookupAndRun_none hb
  | some b =>
    simp only [Got.ok_bind]
    cases hp : classifyPrefix b with
    | some q =>
      rw [lookupAndRun_prefix hb hp, runPrefix_afterRex q hsome, byte_of_classifyPrefix hp, if_pos (.inl rfl)]
      rfl
    | none =>
      cases hx : classifyRex b with
      | some r' =>
        rw [lookupAndRun_rex hb hm hx, runRex_afterRex r' hsome, raw_of_classifyRex hx, if_pos (.inr rfl)]
        rfl
      | none =>
        rw [lookupAndRun_committed hb hp fun _ => hx, if_neg (by simp), hm, h.tx_eq]
        rfl

/-- What `decode_one` does with a byte that ends the prefix scan: the REX check and the rest. -/
def fromByte (buf : Buffer) (start : Nat) (mode : CpuMode) (ps : List Prefix) (b : Byte) (p : Nat) : Got Instruction :=
  (rexCheck buf mode b p).bind fun rb p => committed buf start mode ps rb.1 rb.2 p

theorem fromByte_rex {b : Byte} {r : Rex} (h : classifyRex b = some r) (buf : Buffer) (start : Nat) (ps : List Prefix) (p : Nat) :
    fromByte buf start .m64 ps b p = fromRex buf start ps r p := by
  simp only [fromByte, rexCheck, h, fromRex, Got.bind_assoc]
  congr 1
  funext c q
  split <;> rfl

theorem fromByte_plain {mode : CpuMode} {b : Byte} (h : mode = .m64 → classifyRex b = none) (buf : Buffer) (start : Nat)
    (ps : List Prefix) (p : Nat) : fromByte buf start mode ps b p = committed buf start mode ps none b p := by
  unfold fromByte rexCheck
  split
  · rename_i hr
    rw [h rfl] at hr
    cases hr
  · rfl

theorem fromScan_missing {buf : Buffer} {p : Nat} (h : buf.byte? p = none) (start : Nat) (mode : CpuMode) (ps : List Prefix) :
    ∀ room, fromScan buf start mode room ps p = .raise (.notEnoughBytes 1) p
  | 0 | _ + 1 => by simp only [fromScan, scan, Txn.read8, h, Got.raise_bind]

theorem fromScan_byte {buf : Buffer} {p : Nat} {b : Byte} (h : buf.byte? p = some b) (hp : classifyPrefix b = none) (start : Nat)
    (mode : CpuMode) (ps : List Prefix) : ∀ room, fromScan buf start mode room ps p = fromByte buf start mode ps b (p + 1)
  | 0 | _ + 1 => by simp only [fromScan, scan, Txn.read8, h, hp, Got.ok_bind, fromByte]

theorem fromScan_fourth {buf : Buffer} {p : Nat} {b : Byte} {q : Prefix} (h : buf.byte? p = some b) (hp : classifyPrefix b = some q)
    (start : Nat) (mode : CpuMode) (ps : List Prefix) :
    fromScan buf start mode 0 ps p = .raise (.invalidPrefix (.fourth q)) (p + 1) := by
  simp only [fromScan, scan, Txn.read8, h, hp, Got.ok_bind, Got.raise_bind]

theorem fromScan_prefix {buf : Buffer} {p : Nat} {b : Byte} {q : Prefix} (h : buf.byte? p = some b) (hp : classifyPrefix b = some q)
    (start : Nat) (mode : CpuMode) (ps : List Prefix) (room : Nat) :
    fromScan buf start mode (room + 1) ps p = fromScan buf start mode room (ps ++ [q]) (p + 1) := by
  simp only [fromScan, scan, Txn.read8, h, hp, Got.ok_bind]

/-- The machines that stand at `p` in a transaction from `start` in which the prefixes `ps` and no REX byte are scanned. -/
structure At (buf : Buffer) (mode : CpuMode) (start : Nat) (ps : List Prefix) (p : Nat) (s : State) : Prop where
  buf_eq : s.buf = buf
  mode_eq : s.mode = mode
  pos_eq : s.pos = p
  ready : AtLookup s start ps none

/-- A recorded prefix leaves the end of the transaction the same. -/
theorem State.ended_pushPrefix (s : State) (q : Prefix) (g : Got Instruction) :
    ((s.advance 1).pushPrefix q).ended g = s.ended g := by
  cases g <;> rfl

/-- A recorded REX byte leaves the end of the transaction the same. -/
theorem State.ended_setRex (s : State) (r : Rex) (g : Got Instruction) : ((s.advance 1).setRex r).ended g = s.ended g := by
  cases g <;> rfl

namespace At

variable {buf : Buffer} {mode : CpuMode} {start p : Nat} {ps : List Prefix} {s : State}

theorem rex_eq (h : At buf mode start ps p s) : s.tx.rex = none := by rw [h.ready.tx_eq]; rfl

theorem prefixes_eq (h : At buf mode start ps p s) : s.tx.prefixes = ps := by rw [h.ready.tx_eq]; rfl

theorem step_missing (h : At buf mode start ps p s) (hb : buf.byte? p = none) :
    step s = .next (s.failed (.notEnoughBytes 1) p) := by
  obtain ⟨rfl, rfl, rfl, hr⟩ := h
  rw [hr.step_eq, lookupAndRun_none hb]

theorem step_fourth (h : At buf mode start ps p s) {b : Byte} {q : Prefix} (hb : buf.byte? p = some b)
    (hq : classifyPrefix b = some q) (hc : Config.prefixCap ≤ ps.length) :
    step s = .next (s.failed (.invalidPrefix (.fourth q)) (p + 1)) := by
  have hrex := h.rex_eq
  have hps := h.prefixes_eq
  obtain ⟨rfl, rfl, rfl, hr⟩ := h
  rw [hr.step_eq, lookupAndRun_prefix hb hq, runPrefix_fourth q hrex (by rwa [hps])]

theorem step_prefix (h : At buf mode start ps p s) {b : Byte} {q : Prefix} (hb : buf.byte? p = some b)
    (hq : classifyPrefix b = some q) (hc : ps.length < Config.prefixCap) :
    step s = .next ((s.advance 1).pushPrefix q) ∧ At buf mode start (ps ++ [q]) (p + 1) ((s.advance 1).pushPrefix q) := by
  have hrex := h.rex_eq
  have hps := h.prefixes_eq
  obtain ⟨rfl, rfl, rfl, hr⟩ := h
  refine ⟨?_, rfl, rfl, rfl, .of_scanned ?_ (.inl (by simp))⟩
  · rw [hr.step_eq, lookupAndRun_prefix hb hq, runPrefix_room q hrex (by rwa [hps])]
  · rw [State.pushPrefix_tx, State.advance_tx, hr.tx_eq]; rfl

theorem run_rex (h : At buf .m64 start ps p s) {b : Byte} {r : Rex} (hb : buf.byte? p = some b) (hr : classifyRex b = some r) :
    Host.Core.run Sys2Proof.core 2 s = .next (s.ended (fromRex buf start ps r (p + 1))) := by
  have hrex := h.rex_eq
  obtain ⟨rfl, hm, rfl, hready⟩ := h
  have h1 : step s = .next ((s.advance 1).setRex r) := by
    rw [hready.step_eq, lookupAndRun_rex hb hm hr, runRex_first r hrex]
  have h2 : AtLookup ((s.advance 1).setRex r) start ps (some r) := by
    refine .of_scanned ?_ (.inr (Option.some_ne_none r))
    rw [State.setRex_tx, State.advance_tx, hready.tx_eq]; rfl
  rw [run_succ h1, run_one (step_fromRex (s := (s.advance 1).setRex r) hm h2)]
  exact congrArg Host.Outcome.next (State.ended_setRex s r _)

theorem step_committed (h : At buf mode start ps p s) {b : Byte} (hb : buf.byte? p = some b) (hp : classifyPrefix b = none)
    (hr : mode = .m64 → classifyRex b = none) :
    step s = .next (s.ended (committed buf start mode ps none b (p + 1))) := by
  obtain ⟨rfl, rfl, rfl, hready⟩ := h
  rw [hready.step_eq, lookupAndRun_committed hb hp hr, hready.tx_eq]
  rfl

end At

/-- Where no prefix byte stands, one step or two end the transaction. -/
theorem run_noPrefix {buf : Buffer} {p : Nat} (h : ∀ b, buf.byte? p = some b → classifyPrefix b = none) (mode : CpuMode)
    (start : Nat) (ps : List Prefix) :
    ∃ k, 1 ≤ k ∧ k ≤ 2 ∧ ∀ room s, At buf mode start ps p s →
      Host.Core.run Sys2Proof.core k s = .next (s.ended (fromScan buf start mode room ps p)) := by
  cases hb : buf.byte? p with
  | none =>
    refine ⟨1, by decide, by decide, fun room s hs => ?_⟩
    rw [run_one (hs.step_missing hb), fromScan_missing hb, State.ended_raise]
  | some b =>
    have hp := h b hb
    by_cases hx : mode = .m64 ∧ (classifyRex b).isSome = true
    · obtain ⟨rfl, hx⟩ := hx
      obtain ⟨r, hr⟩ := Option.isSome_iff_exists.mp hx
      refine ⟨2, by decide, by decide, fun room s hs => ?_⟩
      rw [hs.run_rex hb hr, fromScan_byte hb hp, fromByte_rex hr]
    · have hr : mode = .m64 → classifyRex b = none := fun hm => Option.not_isSome_iff_eq_none.mp fun hc => hx ⟨hm, hc⟩
      refine ⟨1, by decide, by decide, fun room s hs => ?_⟩
      rw [run_one (hs.step_committed hb hp hr), fromScan_byte hb hp, fromByte_plain hr]

/-- From the prefix scan on, the number of steps to the end of the transaction depends on the buffer, the mode and the place alone,
and they end it with what `decode_one` gives (40_decode_pipeline.md R131, R161). -/
theorem run_fromScan (buf : Buffer) (mode : CpuMode) (start : Nat) : ∀ (room : Nat) (ps : List Prefix) (p : Nat),
    ps.length + room = Config.prefixCap →
    ∃ k, 1 ≤ k ∧ k ≤ room + 2 ∧ ∀ s, At buf mode start ps p s →
      Host.Core.run Sys2Proof.core k s = .next (s.ended (fromScan buf start mode room ps p)) := by
  intro room ps p hroom
  by_cases h : ∀ b, buf.byte? p = some b → classifyPrefix b = none
  · obtain ⟨k, h1, h2, hk⟩ := run_noPrefix h mode start ps
    exact ⟨k, h1, by omega, hk room⟩
  · push Not at h
    obtain ⟨b, hb, hp⟩ := h
    obtain ⟨q, hq⟩ := Option.ne_none_iff_exists'.mp hp
    cases room with
    | zero =>
      refine ⟨1, by decide, by decide, fun s hs => ?_⟩
      rw [run_one (hs.step_fourth hb hq (by omega)), fromScan_fourth hb hq, State.ended_raise]
    | succ room =>
      obtain ⟨k, h1, h2, hk⟩ := run_fromScan buf mode start room (ps ++ [q]) (p + 1) (by simp; omega)
      refine ⟨k + 1, by omega, by omega, fun s hs => ?_⟩
      obtain ⟨hstep, hat⟩ := hs.step_prefix hb hq (by omega)
      rw [run_succ hstep, hk _ hat, State.ended_pushPrefix, fromScan_prefix hb hq]

/-- Between two transactions with no call pending, the machine stands at the start of one. -/
theorem At.of_atStart {s : State} (h : s.atStart = true) (hc : s.calls = []) (hl : s.pos ≤ s.buf.len) :
    At s.buf s.mode s.pos [] s.pos s :=
  ⟨rfl, rfl, rfl, ⟨(atStart_iff s).mp h, fun _ => ⟨hc, hl⟩⟩⟩

@[simp] theorem State.ended_results_length (s : State) (g : Got Instruction) :
    (s.ended g).results.length = s.results.length + 1 := by
  cases g <;> rfl

/-- The last result of an ended transaction does not depend on the state it ends. -/
theorem lastResult_ended (s s' : State) (g : Got Instruction) :
    Claims.lastResult (s.ended g) = Claims.lastResult (s'.ended g) := by
  cases g <;> rfl

/-- Settles O54: both machines take the number of steps that buffer, position and mode determine, and end with what `decode_one`
gives for them. -/
theorem sameInputsSameResult : Obligations.SameInputsSameResult := by
  intro s s' hs hs' hc hc' hl hbuf hpos hmode
  obtain ⟨k, -, hk, hrun⟩ := run_fromScan s.buf s.mode s.pos Config.prefixCap [] s.pos (Nat.zero_add _)
  have hat' : At s.buf s.mode s.pos [] s.pos s' := by
    rw [hbuf, hpos, hmode]
    exact .of_atStart hs' hc' (by rwa [← hbuf, ← hpos])
  exact ⟨k, _, _, hk, hrun s (.of_atStart hs hc hl), hrun s' hat', by simp, by simp, by simp, lastResult_ended _ _ _⟩

end Sys2Proof.Machine

/-! ## Reading at the cursor -/

namespace Sys2Proof.Machine

/-- Little-endian, as 20_memory.md R63 writes it: byte i of the n bytes at p weighs `2 ^ (8 * i)`. -/
theorem leValue_bytesAt (m : Memory) (n p : Nat) :
    leValue (m.bytesAt p n) = ∑ i ∈ Finset.range n, (m.read (p + i)).toNat * 2 ^ (8 * i) := by
  induction n generalizing p with
  | zero => rfl
  | succ n ih =>
    have shift (i : Nat) : 256 * ((m.read (p + 1 + i)).toNat * 2 ^ (8 * i))
        = (m.read (p + (i + 1))).toNat * 2 ^ (8 * (i + 1)) := by
      rw [Nat.add_right_comm, Nat.add_assoc, Nat.mul_succ, Nat.pow_add, Nat.mul_left_comm, Nat.mul_comm 256]
    calc leValue (m.bytesAt p (n + 1))
        = (m.read p).toNat + 256 * leValue (m.bytesAt (p + 1) n) := rfl
      _ = (m.read p).toNat + ∑ i ∈ Finset.range n, (m.read (p + (i + 1))).toNat * 2 ^ (8 * (i + 1)) := by
          simp only [ih, Finset.mul_sum, shift]
      _ = ∑ i ∈ Finset.range (n + 1), (m.read (p + i)).toNat * 2 ^ (8 * i) := by
          simp [Finset.sum_range_succ', Nat.add_comm]

theorem readN_of_unread {n : Nat} {s : State} (h : s.pos + n ≤ s.buf.len) :
    readN n s = .ok (leValue (s.buf.mem.bytesAt s.pos n)) (s.advance n) := by
  rw [readN, Buffer.value?_eq_some.mpr ⟨h, rfl⟩]

theorem readN_of_short {n : Nat} {s : State} (h : s.buf.len < s.pos + n) : readN n s = .raise (.notEnoughBytes n) s := by
  rw [readN, Buffer.value?_eq_none.mpr h]

theorem read8_of_end {s : State} (h : s.buf.len ≤ s.pos) : read8 s = .raise (.notEnoughBytes 1) s := by
  rw [read8, Buffer.byte?_eq_none.mpr h]

/-- Settles O38: with n bytes unread the value is theirs, which `leValue_bytesAt` gives as the sum of R63. -/
theorem readsAreLittleEndian : Obligations.ReadsAreLittleEndian := by
  intro n s h
  rw [readN_of_unread h, leValue_bytesAt]
  rfl

/-- Settles O39: a read that finds no value, or no byte, raises at the state it was given. -/
theorem failedReadsConsumeNothing : Obligations.FailedReadsConsumeNothing := by
  intro n s h
  refine ⟨readN_of_short h, ?_⟩
  rintro rfl
  exact read8_of_end (Nat.le_of_lt_succ h)

end Sys2Proof.Machine

/-! ## The lookup, by the row's opcode bytes -/

namespace Sys2Proof.Machine

open Claims

/-- Outside REX a byte means the same in every mode (30_encoding.md R84, R109). -/
theorem lookup_eq_mapCell {mode : CpuMode} {b : Byte} (h : mode = .m64 → classifyRex b = none) : lookup mode b = mapCell b := by
  unfold lookup
  split
  · rename_i hr
    rw [h rfl] at hr
    cases hr
  · rfl

theorem decode_mapCell {c : Ctx} {b : Byte} {i : Instr} (h : c.mode = .m64 → classifyRex b = none) (hi : mapCell b = .row i)
    (rest : List Byte) : decode c (b :: rest) = .ok i :=
  decode_row ((lookup_eq_mapCell h).trans hi)

/-- A byte that is no REX byte, and what follows it, decodes as in 32-bit mode. -/
theorem decode_as_m32 {c : Ctx} {b : Byte} (h : c.mode = .m64 → classifyRex b = none) (rest : List Byte) :
    decode c (b :: rest) = decode ⟨.m32, c.prefixes⟩ (b :: rest) := by
  simp only [decode, lookup_eq_mapCell h, lookup_eq_mapCell (mode := .m32) (b := b) CpuMode.noConfusion]

theorem classifyRex_raw (r : Rex) : classifyRex r.raw = some r := by
  have hall : ∀ w r x b, classifyRex (Rex.raw ⟨w, r, x, b⟩) = some ⟨w, r, x, b⟩ := by decide
  exact hall r.w r.r r.x r.b

theorem mapCell_opcodeReg (r : BitVec 3) :
    mapCell (0b01000#5 ++ r) = .row (.incRv r) ∧ mapCell (0b01001#5 ++ r) = .row (.decRv r)
      ∧ mapCell (0b01010#5 ++ r) = .row (.pushRv r) ∧ classifyRex (0b01010#5 ++ r) = none := by
  revert r; decide

theorem decode_escape (c : Ctx) (rest : List Byte) : decode c (0x0F :: rest) = decodeEscape c.prefixes rest :=
  decode_as_m32 (fun _ => rfl) rest

/-! ## Decode of encode -/

theorem decode_rex {c : Ctx} (h : c.mode = .m64) (r : Rex) (rest : List Byte) :
    decode c (r.raw :: rest) = .ok (.rex r.w r.r r.x r.b) := by
  refine decode_row ?_
  simp only [lookup, h, classifyRex_raw]

theorem decodeEscape_noPrefix (b2 : Byte) (rest : List Byte) : decodeEscape [] (b2 :: rest) = .ok (.escapeNoPrefix b2) := rfl

theorem decodeEscape_otherThanRep {ps : List Prefix} (h : someNotRep ps = true) (rest : List Byte) :
    decodeEscape ps rest = .ok .escapePrefixOtherThanRep := by
  simp only [decodeEscape, h, if_true]

theorem allRep_iff (ps : List Prefix) : allRep ps = true ↔ ps.isEmpty = false ∧ someNotRep ps = false := by
  simp [allRep, someNotRep]

theorem decodeEscape_secondByte {ps : List Prefix} (h : allRep ps = true) {b2 : Byte} (h2 : b2 ≠ 0x1E#8) (rest : List Byte) :
    decodeEscape ps (b2 :: rest) = .ok (.escapeRepSecondByte b2) := by
  obtain ⟨he, hn⟩ := (allRep_iff ps).mp h
  simp only [decodeEscape, hn, he, h2, Bool.false_eq_true, if_false]

theorem decodeEscape_thirdByte {ps : List Prefix} (h : allRep ps = true) (b3 : Byte) (rest : List Byte) :
    decodeEscape ps (0x1E#8 :: b3 :: rest)
      = .ok (if b3 = 0xFA#8 then .endBr64 else if b3 = 0xFB#8 then .endBr32 else .escapeRepThirdByte b3) := by
  obtain ⟨he, hn⟩ := (allRep_iff ps).mp h
  simp only [decodeEscape, hn, he, Bool.false_eq_true, if_false, if_true, apply_ite (Except.ok (ε := Reject))]

/-- Settles O2: the rows of the escape path and the rows with operand bits one by one; every other row has constant opcode bytes
that are no REX byte, and the map is read at them as in 32-bit mode. -/
theorem decodeOfEncode : Obligations.DecodeOfEncode := by
  intro c i rest hwf hfits
  cases i with
  | incRv r =>
    obtain ⟨hinc, -, -, -⟩ := mapCell_opcodeReg r
    exact decode_mapCell (fun hm => absurd hm (bne_iff_ne.mp hfits)) hinc rest
  | decRv r =>
    obtain ⟨-, hdec, -, -⟩ := mapCell_opcodeReg r
    exact decode_mapCell (fun hm => absurd hm (bne_iff_ne.mp hfits)) hdec rest
  | pushRv r =>
    obtain ⟨-, -, hpush, hrex⟩ := mapCell_opcodeReg r
    exact decode_mapCell (fun _ => hrex) hpush rest
  | rex w r x b => exact decode_rex (eq_of_beq hfits) ⟨w, r, x, b⟩ rest
  | escapePrefixOtherThanRep => exact (decode_escape c _).trans (decodeEscape_otherThanRep hfits _)
  | escapeNoPrefix b2 =>
    refine (decode_escape c _).trans ?_
    rw [List.isEmpty_iff.mp hfits]
    exact decodeEscape_noPrefix b2 rest
  | escapeRepSecondByte b2 => exact (decode_escape c _).trans (decodeEscape_secondByte hfits (bne_iff_ne.mp hwf) rest)
  | escapeRepThirdByte b3 =>
    obtain ⟨hA, hB⟩ := Bool.and_eq_true_iff.mp hwf
    refine (decode_escape c _).trans ((decodeEscape_thirdByte hfits b3 rest).trans ?_)
    rw [if_neg (bne_iff_ne.mp hA), if_neg (bne_iff_ne.mp hB)]
  | endBr64 => exact (decode_escape c _).trans (decodeEscape_thirdByte hfits 0xFA rest)
  | endBr32 => exact (decode_escape c _).trans (decodeEscape_thirdByte hfits 0xFB rest)
  | _ => exact decode_as_m32 (fun _ => rfl) _

/-- Settles O7: by O2, the bytes being those of Inc and Dec outside 64-bit mode and of a REX row inside it. -/
theorem rexOnlyIn64BitMode : Obligations.RexOnlyIn64BitMode := by
  intro c r rest
  have hraw : 0b01000#5 ++ r = Rex.raw ⟨false, r.getLsbD 2, r.getLsbD 1, r.getLsbD 0⟩
      ∧ 0b01001#5 ++ r = Rex.raw ⟨true, r.getLsbD 2, r.getLsbD 1, r.getLsbD 0⟩ := by
    revert r; decide
  refine ⟨fun hm => ?_, fun hm => ⟨_, ?_, rfl⟩, fun hm => ⟨_, ?_, rfl⟩⟩
  · have hfits : (c.mode != .m64) = true := bne_iff_ne.mpr hm
    exact ⟨decodeOfEncode c (.incRv r) rest rfl hfits, decodeOfEncode c (.decRv r) rest rfl hfits⟩
  · rw [hraw.1]
    exact decode_rex hm _ rest
  · rw [hraw.2]
    exact decode_rex hm _ rest

/-! ## Encode of decode -/

/-- What the map holds at a byte is what stands there: a row of that one byte that occurs in the mode, the escape or an extension
opcode (30_encoding.md R84, R106, R109). -/
def cellStandsAt (mode : CpuMode) (b : Byte) : MapCell → Bool
  | .row i => encode i == [b] && b != 0x0F && i.fits ⟨mode, []⟩
  | .escape => b == 0x0F
  | .needsExt g => b == extByte g

theorem lookup_standsAt (mode : CpuMode) (b : Byte) : cellStandsAt mode b (lookup mode b) = true := by
  cases mode <;> revert b <;> decide

/-- A row of one opcode byte other than the escape is always well formed, and the prefixes do not matter to it. -/
theorem byteRow {i : Instr} {b : Byte} (h : encode i = [b]) (hb : b ≠ 0x0F) :
    i.wf = true ∧ i.opLen = 1 ∧ ∀ c, i.fits c = i.fits ⟨c.mode, []⟩ := by
  cases i with
  | escapePrefixOtherThanRep => exact absurd (List.cons.inj h).1.symm hb
  | endBr64 | endBr32 | escapeNoPrefix | escapeRepSecondByte | escapeRepThirdByte => cases h
  | _ => exact ⟨rfl, rfl, fun _ => rfl⟩

theorem lookup_row {c : Ctx} {b : Byte} {i : Instr} (h : lookup c.mode b = .row i) :
    encode i = [b] ∧ i.opLen = 1 ∧ i.wf = true ∧ i.fits c = true := by
  have hs := lookup_standsAt c.mode b
  simp only [h, cellStandsAt, Bool.and_eq_true, beq_iff_eq, bne_iff_ne] at hs
  obtain ⟨⟨he, hb⟩, hf⟩ := hs
  obtain ⟨hw, hl, hc⟩ := byteRow he hb
  exact ⟨he, hl, hw, (hc c).trans hf⟩

theorem lookup_escape {mode : CpuMode} {b : Byte} (h : lookup mode b = .escape) : b = 0x0F := by
  have hs := lookup_standsAt mode b
  rw [h] at hs
  exact eq_of_beq hs

theorem lookup_needsExt {mode : CpuMode} {b : Byte} {g : ExtOpcode} (h : lookup mode b = .needsExt g) : b = extByte g := by
  have hs := lookup_standsAt mode b
  rw [h] at hs
  exact eq_of_beq hs

/-- An extension row is written as its opcode byte and a ModR/M byte with its extension in the reg field (30_encoding.md R106). -/
theorem encode_extensionRow (g : ExtOpcode) (ext : BitVec 3) :
    encode (extensionRow g ext) = [extByte g, 0#2 ++ ext ++ 0#3] := by
  cases g <;> revert ext <;> decide

theorem extensionRow_plain (g : ExtOpcode) (ext : BitVec 3) (c : Ctx) :
    (extensionRow g ext).opLen = 1 ∧ (extensionRow g ext).wf = true ∧ (extensionRow g ext).fits c = true := by
  have hall : ∀ i ∈ extensionTable g, i.opLen = 1 ∧ i.wf = true ∧ i.fits c = true := by
    cases g <;> simp [extensionTable, Instr.opLen, Instr.wf, Instr.fits]
  exact hall _ (List.get_mem _ _)

theorem bits_reg_of_append (ext : BitVec 3) : bits (0#2 ++ ext ++ 0#3) 3 3 = ext := by
  revert ext; decide

/-- The bytes begin with the opcode bytes of the row and carry its extension, and the row occurs in the context. -/
def BeginWith (c : Ctx) (bs : List Byte) (i : Instr) : Prop :=
  i.wf = true ∧ i.fits c = true ∧ bs.take i.opLen = (encode i).take i.opLen
    ∧ ∀ b m, encode i = [b, m] → i.opLen = 1 → ∃ m', bs[1]? = some m' ∧ bits m' 3 3 = bits m 3 3

theorem beginWith_row {c : Ctx} {b : Byte} {i : Instr} (h : lookup c.mode b = .row i) (rest : List Byte) :
    BeginWith c (b :: rest) i := by
  obtain ⟨he, hl, hw, hf⟩ := lookup_row h
  refine ⟨hw, hf, ?_, ?_⟩
  · rw [he, hl]; rfl
  · intro b' m hm
    rw [he] at hm
    cases hm

theorem beginWith_extension (c : Ctx) (g : ExtOpcode) (m : Byte) (rest : List Byte) :
    BeginWith c (extByte g :: m :: rest) (extensionRow g (bits m 3 3)) := by
  obtain ⟨hl, hw, hf⟩ := extensionRow_plain g (bits m 3 3) c
  have he := encode_extensionRow g (bits m 3 3)
  refine ⟨hw, hf, ?_, ?_⟩
  · rw [he, hl]; rfl
  · rintro b m' hm -
    obtain ⟨-, rfl⟩ : extByte g = b ∧ 0#2 ++ bits m 3 3 ++ 0#3 = m' := by simpa [he] using hm
    exact ⟨m, rfl, (bits_reg_of_append _).symm⟩

theorem beginWith_thirdByte {c : Ctx} (h : allRep c.prefixes = true) (b3 : Byte) (rest : List Byte) :
    BeginWith c (0x0F :: 0x1E :: b3 :: rest)
      (if b3 = 0xFA#8 then .endBr64 else if b3 = 0xFB#8 then .endBr32 else .escapeRepThirdByte b3) := by
  split_ifs with hA hB
  · exact ⟨rfl, h, by rw [hA]; rfl, fun _ _ _ hl => nomatch hl⟩
  · exact ⟨rfl, h, by rw [hB]; rfl, fun _ _ _ hl => nomatch hl⟩
  · exact ⟨Bool.and_eq_true_iff.mpr ⟨bne_iff_ne.mpr hA, bne_iff_ne.mpr hB⟩, h, rfl, fun _ _ _ hl => nomatch hl⟩

/-- The escape path behind prefixes that are all Rep, by the second byte. -/
theorem beginWith_rep {c : Ctx} (hrep : allRep c.prefixes = true) {rest : List Byte} {i : Instr}
    (h : decodeEscape c.prefixes rest = .ok i) : BeginWith c (0x0F :: rest) i := by
  obtain ⟨he, hn⟩ := (allRep_iff _).mp hrep
  rcases rest with _ | ⟨b2, rest⟩
  · simp [decodeEscape, hn] at h
  · by_cases h2 : b2 = 0x1E#8
    · subst h2
      rcases rest with _ | ⟨b3, rest⟩
      · simp [decodeEscape, hn, he] at h
      · rw [decodeEscape_thirdByte hrep] at h
        cases h
        exact beginWith_thirdByte hrep b3 rest
    · rw [decodeEscape_secondByte hrep h2] at h
      cases h
      exact ⟨bne_iff_ne.mpr h2, hrep, rfl, fun _ _ _ hl => nomatch hl⟩

/-- The escape path (46_escape.md R310), by the prefixes. -/
theorem beginWith_escape {c : Ctx} {rest : List Byte} {i : Instr} (h : decodeEscape c.prefixes rest = .ok i) :
    BeginWith c (0x0F :: rest) i := by
  by_cases hn : someNotRep c.prefixes = true
  · rw [decodeEscape_otherThanRep hn] at h
    cases h
    exact ⟨rfl, hn, rfl, fun _ _ he => nomatch he⟩
  · by_cases he : c.prefixes = []
    · rw [he] at h
      rcases rest with _ | ⟨b2, rest⟩
      · cases h
      · cases h
        exact ⟨rfl, List.isEmpty_iff.mpr he, rfl, fun _ _ _ hl => nomatch hl⟩
    · exact beginWith_rep ((allRep_iff _).mpr ⟨List.isEmpty_eq_false_iff.mpr he, Bool.eq_false_iff.mpr hn⟩) h

/-- Settles O3: by what the map holds at the first byte. -/
theorem encodeOfDecode : Obligations.EncodeOfDecode := by
  intro c bs i h
  cases bs with
  | nil => cases h
  | cons b rest =>
    unfold decode at h
    dsimp only at h
    split at h
    · rename_i hl
      cases h
      exact beginWith_row hl rest
    · rename_i hl
      rw [lookup_escape hl]
      exact beginWith_escape h
    · rename_i g hl
      rw [lookup_needsExt hl]
      cases rest with
      | nil => cases h
      | cons m rest =>
        cases h
        exact beginWith_extension c g m rest

/-! ## Totality and the Unknown rows -/

/-- With three bytes a lookup finds a row: it would otherwise have run out of bytes, and it sees no fourth (46_escape.md R310). -/
theorem decode_total (c : Ctx) (b1 b2 b3 : Byte) (rest : List Byte) : ∃ i, decode c (b1 :: b2 :: b3 :: rest) = .ok i := by
  have hsame : decode c (b1 :: b2 :: b3 :: 0 :: rest) = decode c (b1 :: b2 :: b3 :: rest) := by
    rw [← decode_take_three c (b1 :: b2 :: b3 :: 0 :: rest), ← decode_take_three c (b1 :: b2 :: b3 :: rest)]
    rfl
  cases hd : decode c (b1 :: b2 :: b3 :: rest) with
  | ok i => exact ⟨i, rfl⟩
  | error r =>
    have h := (decode_error hd).symm.trans (decode_error (hsame.trans hd))
    simp at h

/-- The bytes of R110. -/
abbrev UnknownByte (b : Byte) : Prop :=
  b = 0x07 ∨ b = 0x17 ∨ b = 0x1F ∨ b = 0x27 ∨ b = 0x2F ∨ b = 0x37 ∨ b = 0x3F ∨ (0x58 ≤ b ∧ b ≤ 0x63)
    ∨ (0x68 ≤ b ∧ b ≤ 0x7F) ∨ (0x84 ≤ b ∧ b ≤ 0x88) ∨ (0x8A ≤ b ∧ b ≤ 0x8C) ∨ (0x8E ≤ b ∧ b ≤ 0xEF) ∨ b = 0xF1
    ∨ (0xF4 ≤ b ∧ b ≤ 0xFE)

/-- An Unknown row stands in the map at its byte, one of R110, which is no prefix, no REX byte and not the escape and has the entry
of R320. -/
theorem rowsUnknown_map : ∀ x ∈ rowsUnknown, UnknownByte x.2 ∧ mapCell x.2 = .row x.1 ∧ classifyRex x.2 = none
    ∧ classifyPrefix x.2 = none ∧ x.2 ≠ 0x0F ∧ Txn.plainEntry x.2 = ⟨.unknown, .ZO, []⟩ := by
  simp only [rowsUnknown, List.forall_mem_append]
  refine ⟨⟨⟨⟨?_, ?_⟩, ?_⟩, ?_⟩, ?_⟩ <;> decide

theorem mem_rowsUnknown_of_byte : ∀ b : Byte, UnknownByte b → b ∈ rowsUnknown.map Prod.snd := by decide

theorem lookup_unknown {x : Instr × Byte} (hx : x ∈ rowsUnknown) (mode : CpuMode) : lookup mode x.2 = .row x.1 := by
  obtain ⟨-, hmap, hrex, -⟩ := rowsUnknown_map x hx
  exact (lookup_eq_mapCell fun _ => hrex).trans hmap

/-- Bytes that decode to an Unknown row begin with its byte. -/
theorem byte_of_decode_unknown {c : Ctx} {b : Byte} {rest : List Byte} {x : Instr × Byte}
    (h : decode c (b :: rest) = .ok x.1) (hx : x ∈ rowsUnknown) : b = x.2 := by
  obtain ⟨he, hl, -, -⟩ := lookup_row (c := c) (lookup_unknown hx c.mode)
  obtain ⟨-, -, hbytes, -⟩ := encodeOfDecode c (b :: rest) x.1 h
  rw [he, hl] at hbytes
  exact (List.cons.inj hbytes).1

/-- Settles O4: an R110 byte decodes to the row listed with it, and bytes that decode to a listed row begin with that row's byte. -/
theorem lookupIsTotalWithTheListedUnknowns : Obligations.LookupIsTotalWithTheListedUnknowns := by
  refine ⟨decode_total, rfl, fun c b rest i h => ⟨⟨?_, ?_⟩, ?_⟩⟩
  · rintro ⟨b', hx⟩
    rw [byte_of_decode_unknown (x := (i, b')) h hx]
    exact (rowsUnknown_map (i, b') hx).1
  · intro hb
    obtain ⟨⟨j, b'⟩, hx, rfl⟩ := List.mem_map.mp (mem_rowsUnknown_of_byte b hb)
    have hj := decode_row (c := c) (rest := rest) (lookup_unknown hx c.mode)
    cases h.symm.trans hj
    exact ⟨b', hx⟩
  · intro b' hx
    exact (byte_of_decode_unknown (x := (i, b')) h hx).symm

/-- Settles O26: the entry at the byte of an Unknown row reads no addressing byte and has no operand. -/
theorem unknownRowsComplete : Obligations.UnknownRowsComplete := by
  intro x hx s
  obtain ⟨-, -, hrex, hpre, h0F, hentry⟩ := rowsUnknown_map x hx
  obtain ⟨he, -, -, -⟩ := lookup_row (c := s.ctx) (lookup_unknown hx s.mode)
  have hnr : ∀ w r x' b, x.1 ≠ .rex w r x' b := by
    intro w r x' b hi
    rw [hi] at he
    rw [← (List.cons.inj he).1, classifyRex_raw] at hrex
    cases hrex
  rw [exec_plain x.1 x.2 he hpre h0F hnr, hentry]
  exact runEntry_returned s x.2 .unknown .ZO [] rfl rfl

/-! ## Prefix and REX bytes -/

/-- Settles O5: the byte of every tag is listed, and `classify_prefix` gives a tag at its own byte only. -/
theorem prefixBytesAreTheElevenOfTheTable : Obligations.PrefixBytesAreTheElevenOfTheTable := by
  have hlisted : ∀ x ∈ rowsPrefix, classifyPrefix x.2.2 = some x.2.1 := by decide
  have hall : ∀ p : Prefix, ∃ x ∈ rowsPrefix, x.2.2 = p.byte := by intro p; cases p <;> decide
  intro b
  refine ⟨?_, fun hb => ?_⟩
  · rintro x hx rfl
    exact hlisted x hx
  · refine Option.eq_none_iff_forall_ne_some.mpr fun p hp => ?_
    obtain ⟨x, hx, hxp⟩ := hall p
    exact hb x hx ((Txn.byte_of_classifyPrefix hp).symm.trans hxp.symm)

theorem bits_high_eq_four_iff (b : Byte) : bits b 4 4 = 0b0100#4 ↔ 0x40 ≤ b ∧ b ≤ 0x4F := by
  revert b; decide

/-- Settles O6: bits 7:4 are 0100 just from 0x40 to 0x4F. -/
theorem rexBytesAre40To4F : Obligations.RexBytesAre40To4F := fun b =>
  ⟨fun h => if_pos ((bits_high_eq_four_iff b).mpr h), fun h => if_neg (mt (bits_high_eq_four_iff b).mp h)⟩

/-- Settles O1: each word is looked up in the map, its extension table or the escape path. -/
theorem wordsDecodeAsTabled : Obligations.WordsDecodeAsTabled := by
  unfold Obligations.WordsDecodeAsTabled
  decide

end Sys2Proof.Machine

/-! ## The addressing forms, and the displacements they select -/

namespace Sys2Proof.Machine

theorem toNat_bits (v : Byte) (lo w : Nat) : (bits v lo w).toNat = v.toNat / 2 ^ lo % 2 ^ w := by
  rw [bits, BitVec.extractLsb'_toNat, Nat.shiftRight_eq_div_pow]

/-- A REX bit adds 8 to a register field in 64-bit mode and nothing elsewhere (30_encoding.md R88, R94). -/
theorem toNat_extend (mode : CpuMode) (bit : Bool) (n : BitVec 3) :
    (extend mode bit n).toNat = n.toNat + if mode = .m64 ∧ bit = true then 8 else 0 := by
  cases mode <;> cases bit <;> revert n <;> decide

section

variable {b : Byte} {mode : CpuMode} {rex : Option Rex}

theorem form_direct (h : modOf b = 3) : (decodeModRM b mode rex).form = .direct (decodeModRM b mode rex).rm := if_pos h

theorem form_sib (hm : mode ≠ .m16) (h3 : modOf b ≠ 3) (h4 : rm3Of b = 4) : (decodeModRM b mode rex).form = .sib :=
  (if_neg h3).trans ((if_neg hm).trans (if_pos h4))

theorem form_noBase (hm : mode ≠ .m16) (h0 : modOf b = 0) (h5 : rm3Of b = 5) : (decodeModRM b mode rex).form = .noBase := by
  simp [decodeModRM, addrForm, hm, h0, h5]

theorem form_base (hm : mode ≠ .m16) (h3 : modOf b ≠ 3) (h4 : rm3Of b ≠ 4) (h5 : ¬(modOf b = 0 ∧ rm3Of b = 5)) :
    (decodeModRM b mode rex).form = .base (decodeModRM b mode rex).rm :=
  (if_neg h3).trans ((if_neg hm).trans ((if_neg h4).trans (if_neg h5)))

theorem form_noBase16 (h0 : modOf b = 0) (h6 : rm3Of b = 6) : (decodeModRM b .m16 rex).form = .noBase16 := by
  simp [decodeModRM, addrForm, h0, h6]

theorem form_pair16 (h3 : modOf b ≠ 3) (h6 : ¬(modOf b = 0 ∧ rm3Of b = 6)) :
    (decodeModRM b .m16 rex).form = .pair16 (pick pairTable (rm3Of b) rfl).1 (pick pairTable (rm3Of b) rfl).2 :=
  (if_neg h3).trans ((if_pos rfl).trans (if_neg h6))

/-- What is no register form is one of the five memory forms (30_encoding.md R89, R92). -/
theorem form_ne_direct (h3 : modOf b ≠ 3) (n : BitVec 4) : (decodeModRM b mode rex).form ≠ .direct n := by
  intro hn
  replace hn := (if_neg h3).symm.trans hn
  split_ifs at hn

theorem form_eq_sib_iff :
    (decodeModRM b mode rex).form = .sib ↔ (mode = .m32 ∨ mode = .m64) ∧ modOf b ≠ 3 ∧ rm3Of b = 4 := by
  have hm : (mode = .m32 ∨ mode = .m64) ↔ mode ≠ .m16 := by cases mode <;> decide
  rw [hm]
  refine ⟨fun h => ?_, fun ⟨hm, h3, h4⟩ => form_sib hm h3 h4⟩
  simp only [decodeModRM, addrForm] at h
  split_ifs at h with h3 hm _ h4
  exact ⟨hm, h3, h4⟩

/-- The displacement width by mod for a memory form with a base (30_encoding.md R89, R92). -/
theorem dispOfMod_memory {mod : BitVec 2} (h3 : mod ≠ 3) (full : Width) :
    dispOfMod mod full = if mod = 0 then none else if mod = 1 then some .w8 else some full := by
  have hmod : mod = 0 ∨ mod = 1 ∨ mod = 2 := by revert h3; revert mod; decide
  rcases hmod with rfl | rfl | rfl <;> rfl

theorem directRegister_direct (h3 : modOf b = 3) :
    directRegister (decodeModRM b mode rex) = some (decodeModRM b mode rex).rm := by
  simp only [directRegister, form_direct h3]

theorem directRegister_memory (h3 : modOf b ≠ 3) : directRegister (decodeModRM b mode rex) = none := by
  unfold directRegister
  split
  case h_1 hd => exact absurd hd (form_ne_direct h3 _)
  all_goals rfl

theorem memDescriptor_direct (h3 : modOf b = 3) (eas : AddrSize) (sib : Option Sib) (disp : Option Displacement) :
    memDescriptor mode eas (decodeModRM b mode rex) sib disp = none := by
  simp only [memDescriptor, form_direct h3]

theorem memDescriptor_memory (h3 : modOf b ≠ 3) (eas : AddrSize) (sib : Option Sib) (disp : Option Displacement) :
    ∃ d, memDescriptor mode eas (decodeModRM b mode rex) sib disp = some d ∧ d.asize = eas ∧ d.disp = disp := by
  unfold memDescriptor
  dsimp only
  split
  case h_1 hd => exact absurd hd (form_ne_direct h3 _)
  all_goals exact ⟨_, rfl, rfl, rfl⟩

theorem sibNoBase_iff (mod : BitVec 2) (x : Byte) : sibNoBase mod x = true ↔ mod = 0 ∧ base3Of x = 5 := by
  simp [sibNoBase]

theorem dispWidth_sib (hf : (decodeModRM b mode rex).form = .sib) (x : Byte) :
    dispWidth (decodeModRM b mode rex) (some (decodeSib x (modOf b) mode rex))
      = if sibNoBase (modOf b) x then some .w32 else dispOfMod (modOf b) .w32 := by
  simp only [dispWidth, hf]
  rfl

theorem decodeSib_noIndex {x : Byte} (hi : index3Of x = 4) (mod : BitVec 2) :
    (decodeSib x mod mode rex).index = none ∧ (decodeSib x mod mode rex).scale = none :=
  ⟨if_pos (beq_iff_eq.mpr hi), if_pos (beq_iff_eq.mpr hi)⟩

theorem decodeSib_index {x : Byte} (hi : index3Of x ≠ 4) (mod : BitVec 2) :
    (decodeSib x mod mode rex).index = some (extend mode (rexBit Rex.x rex) (index3Of x))
      ∧ (decodeSib x mod mode rex).scale = scaleOf (scale2Of x) :=
  ⟨if_neg (mt beq_iff_eq.mp hi), if_neg (mt beq_iff_eq.mp hi)⟩

end

/-- Settles O45: the fields are quotients and remainders of the byte, and REX adds 8. -/
theorem modRMFieldsAndRegisterForm : Obligations.ModRMFieldsAndRegisterForm := by
  intro b mode rex
  refine ⟨rfl, ?_, toNat_bits b 3 3, ?_, toNat_extend mode _ _, toNat_extend mode _ _, form_direct, directRegister_memory⟩
  · have hbits := toNat_bits b 6 2
    have hlt := b.isLt
    rw [modOf]
    omega
  · rw [rm3Of, toNat_bits, Nat.pow_zero, Nat.div_one]
    rfl

/-- Settles O46: the Sib form, the form without a base, and the forms with one, whose displacement is by mod. -/
theorem addressingForms32And64 : Obligations.AddressingForms32And64 := by
  intro b mode rex hm h3
  refine ⟨form_sib hm h3, fun h0 h5 => ?_, fun h4 h5 => ?_⟩
  · have hf := form_noBase (rex := rex) hm h0 h5
    exact ⟨hf, by simp only [dispWidth, hf]⟩
  · have hf := form_base (rex := rex) hm h3 h4 h5
    refine ⟨hf, ?_⟩
    simp only [dispWidth, hf]
    exact dispOfMod_memory h3 .w32

/-- Settles O47: the disp16 form, and the pairs of the table, whose displacement is by mod. -/
theorem addressingForms16 : Obligations.AddressingForms16 := by
  intro b rex h3
  refine ⟨fun h0 h6 => ?_, fun h6 => ?_⟩
  · have hf := form_noBase16 (rex := rex) h0 h6
    exact ⟨hf, by simp only [dispWidth, hf]⟩
  · have hf := form_pair16 (rex := rex) h3 h6
    refine ⟨hf.trans ?_, ?_⟩
    · generalize rm3Of b = n
      revert n
      decide
    · simp only [dispWidth, hf]
      exact dispOfMod_memory h3 .w16

/-- Settles O48: index and scale go by index3, base and displacement by mod and base3. -/
theorem sibIndexScaleAndBase : Obligations.SibIndexScaleAndBase := by
  intro b x mode rex hf sib
  obtain ⟨-, h3, -⟩ := form_eq_sib_iff.mp hf
  refine ⟨fun hi => decodeSib_noIndex hi _, fun hi => ?_, fun h0 h5 => ?_, fun h05 => ?_⟩
  · obtain ⟨hindex, hscale⟩ := decodeSib_index (mode := mode) (rex := rex) hi (modOf b)
    refine ⟨?_, hscale.trans ?_⟩
    · rw [hindex, Option.map_some, toNat_extend]
    · generalize scale2Of x = n
      revert n
      decide
  · have hbase := (sibNoBase_iff (modOf b) x).mpr ⟨h0, h5⟩
    exact ⟨if_pos hbase, (dispWidth_sib hf x).trans (if_pos hbase)⟩
  · have hbase := mt (sibNoBase_iff (modOf b) x).mp h05
    refine ⟨?_, (dispWidth_sib hf x).trans ((if_neg hbase).trans (dispOfMod_memory h3 .w32))⟩
    rw [← toNat_extend]
    exact congrArg (Option.map BitVec.toNat) (if_neg hbase)

/-- Settles O49: only mod = 11 gives the register form. -/
theorem accessorsByModAlone : Obligations.AccessorsByModAlone := fun _ _ _ eas sib disp =>
  ⟨fun h3 => ⟨directRegister_direct h3, memDescriptor_direct h3 eas sib disp⟩,
    fun h3 => ⟨directRegister_memory h3, memDescriptor_memory h3 eas sib disp⟩⟩

end Sys2Proof.Machine

/-! ## What the addressing stages read -/

namespace Sys2Proof.Machine

namespace Txn

variable {buf : Buffer} {mode : CpuMode} {rex : Option Rex} {enc : Encoding} {p q : Nat}

theorem Got.bind_eq_ok {α β : Type} {g : Got α} {k : α → Nat → Got β} {b : β} :
    g.bind k = .ok b q ↔ ∃ a m, g = .ok a m ∧ k a m = .ok b q := by
  cases g with
  | ok a m => simp
  | raise e m => simp

theorem read8_eq_ok {b : Byte} : read8 buf p = .ok b q ↔ buf.byte? p = some b ∧ q = p + 1 := by
  unfold read8
  cases buf.byte? p <;> simp [eq_comm]

theorem readSized_eq_ok {w : Width} {v : Sized} :
    readSized buf w p = .ok v q
      ↔ p + w.bytes ≤ buf.len ∧ v = sizedOfNat w (leValue (buf.mem.bytesAt p w.bytes)) ∧ q = p + w.bytes := by
  unfold readSized Buffer.value?
  by_cases h : p + w.bytes ≤ buf.len <;> simp [h, eq_comm]

/-- A SIB byte is read for the Sib form and for no other. -/
theorem readSib_eq_ok {m : ModRM} {sib : Option Sib} :
    readSib buf mode rex m p = .ok sib q
      ↔ (m.form = .sib ∧ ∃ x, buf.byte? p = some x ∧ sib = some (decodeSib x (modOf m.raw) mode rex) ∧ q = p + 1)
        ∨ (m.form ≠ .sib ∧ sib = none ∧ q = p) := by
  unfold readSib
  by_cases h : m.form = .sib
  · simp only [h, if_true, Got.bind_eq_ok, read8_eq_ok]
    grind
  · simp [h, eq_comm]

/-- A displacement of the width the form selects is read, or none. -/
theorem readDisp_eq_ok {m : ModRM} {sib : Option Sib} {disp : Option Displacement} :
    readDisp buf m sib p = .ok disp q
      ↔ (dispWidth m sib = none ∧ disp = none ∧ q = p)
        ∨ ∃ w, dispWidth m sib = some w ∧ p + w.bytes ≤ buf.len
          ∧ disp = some (sizedOfNat w (leValue (buf.mem.bytesAt p w.bytes))) ∧ q = p + w.bytes := by
  unfold readDisp
  cases dispWidth m sib with
  | none => simp [eq_comm]
  | some w =>
    simp only [Got.bind_eq_ok, readSized_eq_ok]
    grind

theorem le_of_readSib {m : ModRM} {sib : Option Sib} (h : readSib buf mode rex m p = .ok sib q) : p ≤ q := by
  rcases readSib_eq_ok.mp h with ⟨-, x, -, -, rfl⟩ | ⟨-, -, rfl⟩ <;> omega

theorem le_of_readDisp {m : ModRM} {sib : Option Sib} {disp : Option Displacement} (h : readDisp buf m sib p = .ok disp q) :
    p ≤ q := by
  rcases readDisp_eq_ok.mp h with ⟨-, -, rfl⟩ | ⟨w, -, -, -, rfl⟩ <;> omega

/-- For the four encodings with a ModR/M byte the three stages run one after the other (40_decode_pipeline.md R140 to R142). -/
theorem addressing_stages {a : Addressing} (he : enc = .M ∨ enc = .MI ∨ enc = .MR ∨ enc = .RM)
    (h : addressing buf mode rex enc p = .ok a q) :
    ∃ b d, buf.byte? p = some b ∧ a.modrm = some (decodeModRM b mode rex)
      ∧ readSib buf mode rex (decodeModRM b mode rex) (p + 1) = .ok a.sib d
      ∧ readDisp buf (decodeModRM b mode rex) a.sib d = .ok a.disp q := by
  rw [addressing, if_pos he] at h
  obtain ⟨b, m, hread, h⟩ := Got.bind_eq_ok.mp h
  obtain ⟨hb, rfl⟩ := read8_eq_ok.mp hread
  obtain ⟨sib, d, hsib, h⟩ := Got.bind_eq_ok.mp h
  obtain ⟨disp, q', hdisp, h⟩ := Got.bind_eq_ok.mp h
  cases h
  exact ⟨b, d, hb, rfl, hsib, hdisp⟩

/-- The other encodings read nothing here (40_decode_pipeline.md R143). -/
theorem addressing_none {a : Addressing} (he : enc = .I ∨ enc = .O ∨ enc = .ZO)
    (h : addressing buf mode rex enc p = .ok a q) : a = noAddressing ∧ q = p := by
  rcases he with rfl | rfl | rfl <;> cases h <;> exact ⟨rfl, rfl⟩

end Txn

open Txn

/-- Settles O41: the ModR/M byte is read first, and the stages after it only move on. -/
theorem modRMByteOnlyForFourEncodings : Obligations.ModRMByteOnlyForFourEncodings := by
  intro buf mode rex enc p q a h
  refine ⟨fun he => ?_, fun he => addressing_none he h⟩
  obtain ⟨b, d, hb, hm, hsib, hdisp⟩ := addressing_stages he h
  exact ⟨(le_of_readSib hsib).trans (le_of_readDisp hdisp), b, hb, hm⟩

/-- Settles O40: a SIB byte is read just for the Sib form, and the displacement where it ends. -/
theorem addressingReadsItsBytesInOrder : Obligations.AddressingReadsItsBytesInOrder := by
  intro buf mode rex enc p q a h
  refine ⟨fun he => ?_, fun he => ?_⟩
  · obtain ⟨b, d, hb, hm, hsib, hdisp⟩ := addressing_stages he h
    refine ⟨b, d, hb, hm, fun hf => ?_, fun hf => ?_, fun hw => ?_, fun w hw => ?_⟩
    · rcases readSib_eq_ok.mp hsib with ⟨-, hread⟩ | ⟨hne, -⟩
      · exact hread
      · exact absurd (form_eq_sib_iff.mpr hf) hne
    · rcases readSib_eq_ok.mp hsib with ⟨heq, -⟩ | ⟨-, hnone⟩
      · exact absurd (form_eq_sib_iff.mp heq) hf
      · exact hnone
    · rcases readDisp_eq_ok.mp hdisp with ⟨-, hnone⟩ | ⟨w, hw', -⟩
      · exact hnone
      · rw [hw] at hw'; cases hw'
    · rcases readDisp_eq_ok.mp hdisp with ⟨hw', -⟩ | ⟨w', hw', hl, hv, hq⟩
      · rw [hw] at hw'; cases hw'
      · obtain rfl : w = w' := Option.some.inj (hw.symm.trans hw')
        exact ⟨hq, hq ▸ hl, hv⟩
  · obtain ⟨rfl, rfl⟩ := addressing_none he h
    exact ⟨rfl, rfl, rfl, rfl⟩

end Sys2Proof.Machine

/-! ## The stepping machine and `decode_one` -/

namespace Sys2Proof.Machine

open Txn

/-- A transaction that has ended with the result of `decode_one` has ended with what the scan from its start gives. -/
theorem afterResult_decodeOne (s : State) (buf : Buffer) (start : Nat) (mode : CpuMode) :
    Claims.afterResult s (decodeOne buf start mode) = s.ended (fromScan buf start mode Config.prefixCap [] start) := by
  have hd : decodeOne buf start mode = match fromScan buf start mode Config.prefixCap [] start with
      | .ok ins p => .instruction ins p
      | .raise e p => .error e p := rfl
  rw [hd]
  cases fromScan buf start mode Config.prefixCap [] start <;> rfl

/-- The first prefix byte of a transaction is recorded: the transaction is under way. -/
theorem At.of_firstPrefix {u : State} (hu : u.tx = Transient.init u.pos) (q : Prefix) :
    At u.buf u.mode u.pos [q] (u.pos + 1) ((u.advance 1).pushPrefix q) := by
  refine ⟨rfl, rfl, rfl, .of_scanned ?_ (.inl (List.cons_ne_nil q []))⟩
  rw [State.pushPrefix_tx, State.advance_tx, hu]
  rfl

/-- A REX byte at the start of a transaction is recorded: the transaction is under way. -/
theorem AtLookup.of_firstRex {u : State} (hu : u.tx = Transient.init u.pos) (r : Rex) :
    AtLookup ((u.advance 1).setRex r) u.pos [] (some r) := by
  refine .of_scanned ?_ (.inr (Option.some_ne_none r))
  rw [State.setRex_tx, State.advance_tx, hu]
  rfl

/-- Where a step is the lookup at the start of a transaction at `u`, that transaction ends in one to five steps with what
`decode_one` gives. It asks nothing of the calls pending at `u`: a transaction that goes on after its first byte is under way, and
no step inside one looks at them. -/
theorem run_firstLookup {s u : State} (hs : step s = lookupAndRun u) (hu : u.tx = Transient.init u.pos) :
    ∃ k, 1 ≤ k ∧ k ≤ 5 ∧ Host.Core.run Sys2Proof.core k s
      = .next (u.ended (fromScan u.buf u.pos u.mode Config.prefixCap [] u.pos)) := by
  have hrex : u.tx.rex = none := by rw [hu]; rfl
  cases hb : u.buf.byte? u.pos with
  | none =>
    refine ⟨1, by decide, by decide, ?_⟩
    rw [run_one (hs.trans (lookupAndRun_none hb)), fromScan_missing hb, State.ended_raise]
  | some b =>
    cases hp : classifyPrefix b with
    | some q =>
      have hstep : step s = .next ((u.advance 1).pushPrefix q) := by
        rw [hs, lookupAndRun_prefix hb hp, runPrefix_room q hrex (by rw [hu]; exact Nat.succ_pos 2)]
      obtain ⟨k, -, hk, hrun⟩ := run_fromScan u.buf u.mode u.pos 2 [q] (u.pos + 1) rfl
      refine ⟨k + 1, Nat.le_add_left 1 k, Nat.succ_le_succ hk, ?_⟩
      rw [run_succ hstep, hrun _ (.of_firstPrefix hu q), State.ended_pushPrefix]
      exact congrArg (fun g => Host.Outcome.next (u.ended g)) (fromScan_prefix hb hp u.pos u.mode [] 2).symm
    | none =>
      rw [fromScan_byte hb hp]
      by_cases hx : u.mode = .m64 ∧ (classifyRex b).isSome = true
      · obtain ⟨hm, hx⟩ := hx
        obtain ⟨r, hr⟩ := Option.isSome_iff_exists.mp hx
        have hstep : step s = .next ((u.advance 1).setRex r) := by
          rw [hs, lookupAndRun_rex hb hm hr, runRex_first r hrex]
        refine ⟨2, by decide, by decide, ?_⟩
        rw [run_succ hstep, run_one (step_fromRex (s := (u.advance 1).setRex r) hm (.of_firstRex hu r)), State.ended_setRex, hm,
          fromByte_rex hr]
        rfl
      · have hr : u.mode = .m64 → classifyRex b = none := fun hm => Option.not_isSome_iff_eq_none.mp fun hc => hx ⟨hm, hc⟩
        refine ⟨1, by decide, by decide, ?_⟩
        rw [run_one (hs.trans (lookupAndRun_committed hb hp hr)), fromByte_plain hr, hu]
        rfl

/-- Settles O52: the first step is the lookup at the cursor, or at the start of the pending call. -/
theorem transactionIsDecodeOne : Obligations.TransactionIsDecodeOne := by
  refine ⟨fun s hs hc hl => ?_, fun s c rest hs hc hl => ?_⟩
  · have hu := (atStart_iff s).mp hs
    rw [afterResult_decodeOne]
    exact run_firstLookup (step_lookup (.inl (by rw [hu]; rfl)) fun _ => ⟨hc, hl⟩) hu
  · rw [afterResult_decodeOne]
    exact run_firstLookup (u := Claims.begun s c rest) (step_begins_call hs hc hl) rfl

theorem classifyPrefix_byte (p : Prefix) : classifyPrefix p.byte = some p := by cases p <;> rfl

theorem classifyPrefix_raw (r : Rex) : classifyPrefix r.raw = none := by
  have hall : ∀ w r x b, classifyPrefix (Rex.raw ⟨w, r, x, b⟩) = none := by decide
  exact hall r.w r.r r.x r.b

/-- `decode_one` scans the prefixes that stand in the buffer (40_decode_pipeline.md R132). -/
theorem fromScan_prefixes {buf : Buffer} {q : Nat} (start : Nat) (mode : CpuMode) (room : Nat) :
    ∀ (new ps : List Prefix) (p : Nat), buf.Holds p (new.map Prefix.byte) q →
      fromScan buf start mode (new.length + room) ps p = fromScan buf start mode room (ps ++ new) q
  | [], ps, p, h => by
    obtain rfl : q = p := h.stop
    rw [List.length_nil, Nat.zero_add, List.append_nil]
  | x :: new, ps, p, h => by
    have hrest : buf.Holds (p + 1) (new.map Prefix.byte) q := (Buffer.Holds.byte h.byte?_eq).rest h
    rw [List.length_cons, Nat.add_right_comm, fromScan_prefix h.byte?_eq (classifyPrefix_byte x),
      fromScan_prefixes start mode room new (ps ++ [x]) (p + 1) hrest, List.append_assoc]
    rfl

/-- `decode_one` takes the REX byte that stands after the prefixes (40_decode_pipeline.md R134). -/
theorem fromScan_rex {buf : Buffer} {p : Nat} {r : Rex} (h : buf.byte? p = some r.raw) (start : Nat) (ps : List Prefix)
    (room : Nat) : fromScan buf start .m64 room ps p = fromRex buf start ps r (p + 1) := by
  rw [fromScan_byte h (classifyPrefix_raw r), fromByte_rex (classifyRex_raw r)]

/-- The prefixes of a transaction under way have been scanned from its start (10_state.md R39), and `decode_one` goes on after
them. -/
theorem Inv.fromScan_eq {s : State} (h : Inv s) : ∃ m, s.buf.Holds m (s.tx.rex.toList.map Rex.raw) s.pos ∧
    fromScan s.buf s.tx.start s.mode Config.prefixCap [] s.tx.start
      = fromScan s.buf s.tx.start s.mode (Config.prefixCap - s.tx.prefixes.length) s.tx.prefixes m := by
  obtain ⟨m, hps, hrex⟩ := h.holds.split
  have hroom := Nat.add_sub_cancel' h.prefixes_le
  refine ⟨m, hrex, ?_⟩
  have hscan := fromScan_prefixes s.tx.start s.mode (Config.prefixCap - s.tx.prefixes.length) s.tx.prefixes [] s.tx.start hps
  rwa [hroom] at hscan

/-- A transaction under way in which no REX byte has been read has scanned a prefix. -/
theorem Inv.prefixes_ne_nil {s : State} (h : Inv s) (hs : s.atStart = false) (hr : s.tx.rex = none) : s.tx.prefixes ≠ [] := by
  intro hps
  have hpos := h.pos_eq
  have htx := h.tx_scanned
  rw [hps, hr] at htx hpos
  rw [show s.tx.start = s.pos from hpos.symm] at htx
  exact absurd ((atStart_iff s).mpr htx) (Bool.eq_false_iff.mp hs)

/-- Settles O53: behind a REX byte one step is left; else the prefixes leave room for fewer than three more. -/
theorem transactionUnderWayIsDecodeOne : Obligations.TransactionUnderWayIsDecodeOne := by
  intro s h hs
  obtain ⟨m, hm, hscan⟩ := h.fromScan_eq
  rw [afterResult_decodeOne, hscan]
  have htx := h.tx_scanned
  cases hr : s.tx.rex with
  | some r =>
    rw [hr] at hm htx
    have hmode := h.rex_mode (by rw [hr]; rfl)
    have hat : AtLookup s s.tx.start s.tx.prefixes (some r) := .of_scanned htx (.inr (Option.some_ne_none r))
    refine ⟨1, by decide, by decide, ?_⟩
    rw [run_one (step_fromRex hmode hat), hmode, fromScan_rex hm.byte?_eq, hm.stop]
    rfl
  | none =>
    rw [hr] at hm htx
    obtain rfl : s.pos = m := hm.stop
    have hne := h.prefixes_ne_nil hs hr
    have hroom := Nat.add_sub_cancel' h.prefixes_le
    have hlen := List.length_pos_iff.mpr hne
    obtain ⟨k, h1, hk, hrun⟩ := run_fromScan s.buf s.mode s.tx.start _ s.tx.prefixes s.pos hroom
    refine ⟨k, h1, ?_, hrun s ⟨rfl, rfl, rfl, .of_scanned htx (.inl hne)⟩⟩
    have : Config.prefixCap = 3 := rfl
    omega

end Sys2Proof.Machine

/-! ## A step is the row the lookup finds -/

namespace Sys2Proof.Machine

open Claims

theorem lookupAndRun_ok {s : State} {i : Instr} (h : decode s.ctx s.fetch = .ok i) : lookupAndRun s = exec i s := by
  simp only [lookupAndRun, h]

/-- Settles O8: the lookup at the cursor finds what all the unread bytes decode to, at the state itself or at the one the call
brings. -/
theorem stepRunsTheDecodedRow : Obligations.StepRunsTheDecodedRow := by
  refine ⟨fun s i hstage hstart hd => ?_, fun s t i c rest hs hc ht hl hd => ?_⟩
  · rw [← decode_fetch] at hd
    rw [step_lookup hstage hstart, lookupAndRun_ok hd]
  · rw [← decode_fetch] at hd
    subst ht
    exact (step_begins_call hs hc hl).trans (lookupAndRun_ok hd)

/-! ## A placed word -/

/-- The bytes a lookup sees, where the buffer holds three or more. -/
theorem fetch_of_holds {s : State} {bs : List Byte} {z : Nat} (h : s.buf.Holds s.pos bs z) (hl : 3 ≤ bs.length) :
    s.fetch = bs.take 3 := by
  obtain ⟨rfl, hz, hb⟩ := h
  have hn : min 3 (s.buf.len - s.pos) = min 3 bs.length := by omega
  rw [State.fetch, Buffer.window, Buffer.unread, hn, ← Memory.bytesAt_take, hb]

theorem holds_placeBytes {s : State} (h : s.buf.mem.wf = true) (bs : List Byte) :
    (s.placeBytes bs).buf.Holds s.pos bs (s.pos + bs.length) :=
  ⟨rfl, Nat.le_max_right _ _, Memory.bytesAt_writeBytes bs s.pos h⟩

theorem tableBytes_length (nbits w : Nat) : (tableBytes nbits w).length = Config.maxLength := by
  simp [tableBytes]

/-- What placing a word of the table establishes (log 9, log 10): its bytes stand at the cursor in the context it is read in, and
the next step is a lookup there. -/
structure State.Placed (s : State) (nbits w : Nat) : Prop where
  stage_eq : s.tx.stage = .awaitingOpcode
  calls_eq : s.calls = []
  ctx_eq : s.ctx = tableCtx nbits w
  holds : ∃ z, s.buf.Holds s.pos (tableBytes nbits w) z

/-- A row that is read behind Rep stands after that prefix byte; every other word stands at the cursor. -/
theorem placed_withFetchWord {s : State} (h : s.buf.wf = true) (nbits w : Nat) : (s.withFetchWord nbits w).Placed nbits w := by
  have hmem : s.buf.mem.wf = true := (Bool.and_eq_true_iff.mp h).1
  unfold State.withFetchWord State.placeWord
  by_cases hrep : tableNeedsRep nbits w = true
  · simp only [if_pos hrep]
    have hh := holds_placeBytes (s := { s with mode := Config.resetMode, tx := Transient.init s.pos, calls := [] }) hmem
      (Prefix.rep.byte :: tableBytes nbits w)
    exact ⟨rfl, rfl, by rw [tableCtx, if_pos hrep]; rfl, _, (Buffer.Holds.byte hh.byte?_eq).rest hh⟩
  · simp only [if_neg hrep]
    exact ⟨rfl, rfl, by rw [tableCtx, if_neg hrep]; rfl, _, holds_placeBytes hmem _⟩

theorem decode_of_decodeTableWord {nbits w : Nat} {i : Instr} (h : decodeTableWord nbits w = some i) :
    decode (tableCtx nbits w) (tableBytes nbits w) = .ok i := by
  unfold decodeTableWord at h
  split at h
  · rename_i hd
    rw [hd, Option.some.inj h]
  · cases h

/-- Settles O12: the lookup sees the first three bytes of the word, which it decodes as it decodes the word. -/
theorem placedWordRunsItsRow : Obligations.PlacedWordRunsItsRow := by
  intro s nbits w i hbuf hi
  obtain ⟨hstage, hcalls, hctx, z, hh⟩ := placed_withFetchWord hbuf nbits w
  have hfetch := fetch_of_holds hh (by rw [tableBytes_length]; decide)
  have hd : decode (s.withFetchWord nbits w).ctx (s.withFetchWord nbits w).fetch = .ok i := by
    rw [hfetch, decode_take_three, hctx, decode_of_decodeTableWord hi]
  rw [step_lookup (.inl hstage) fun _ => ⟨hcalls, ?_⟩, lookupAndRun_ok hd]
  have := hh.stop
  have := hh.inside
  omega

/-! ## Prefix and REX rows -/

/-- The 11 prefix rows are one operation over their tag (41_prefix_rex.md R180 to R190). -/
theorem exec_prefixRow : ∀ x ∈ rowsPrefix, (∀ s, exec x.1 s = runPrefix x.2.1 s) ∧ x.2.1.byte = x.2.2 := by
  intro x hx
  unfold rowsPrefix at hx
  fin_cases hx <;> exact ⟨fun _ => rfl, rfl⟩

/-- Settles O27: each of the 11 rows is `runPrefix` of its tag. -/
theorem prefixRowsComplete : Obligations.PrefixRowsComplete := by
  intro x hx s
  obtain ⟨hrun, hbyte⟩ := exec_prefixRow x hx
  rw [hrun, ← hbyte]
  exact ⟨runPrefix_room x.2.1, runPrefix_fourth x.2.1, fun hr => runPrefix_afterRex x.2.1 (Option.isSome_iff_ne_none.mpr hr)⟩

/-- Settles O28: the row is `runRex` of its record. -/
theorem rexRowCompletes : Obligations.RexRowCompletes := fun w r x b _ =>
  ⟨runRex_first ⟨w, r, x, b⟩, fun hr => runRex_afterRex ⟨w, r, x, b⟩ (Option.isSome_iff_ne_none.mpr hr)⟩

end Sys2Proof.Machine

/-! ## Effective sizes -/

namespace Sys2Proof.Machine

theorem operandSizeOverride_iff (ps : List Prefix) : operandSizeOverride ps = true ↔ Prefix.operandSizeOverride ∈ ps := by
  simp [operandSizeOverride]

theorem addressSizeOverride_iff (ps : List Prefix) : addressSizeOverride ps = true ↔ Prefix.addressSizeOverride ∈ ps := by
  simp [addressSizeOverride]

/-- With 0x67 the effective address size is the other one of the mode, without it the default (40_decode_pipeline.md R146). -/
theorem easOf_override {ps : List Prefix} (h : Prefix.addressSizeOverride ∈ ps) (mode : CpuMode) :
    easOf mode ps = effAddrSize mode true := by
  rw [easOf, (addressSizeOverride_iff ps).mpr h]

theorem easOf_default {ps : List Prefix} (h : Prefix.addressSizeOverride ∉ ps) (mode : CpuMode) :
    easOf mode ps = defaultAddrSize mode := by
  rw [easOf, Bool.eq_false_iff.mpr (mt (addressSizeOverride_iff ps).mp h)]
  rfl

/-- Without REX.W in 64-bit mode the operand size goes by the mode and 0x66 (40_decode_pipeline.md R145). -/
theorem effOpSize_noRexW {mode : CpuMode} {w : Bool} (h : mode ≠ .m64 ∨ w = false) (o : Bool) :
    effOpSize mode o w = if o then (if mode = .m16 then .o32 else .o16) else defaultOperandSize mode := by
  refine if_neg ?_
  rintro ⟨hm, hw⟩
  rcases h with h | h
  · exact h hm
  · rw [hw] at h; cases h

/-- Settles O42: REX.W first, then by the mode and whether the override is in P. -/
theorem effectiveSizesByModeAndOverride : Obligations.EffectiveSizesByModeAndOverride := by
  intro mode ps rex
  refine ⟨fun hw => ⟨fun h => ?_, fun h => ?_⟩, fun hm hw => if_pos ⟨hm, hw⟩, fun h => ?_, fun h => ?_⟩
  · rw [eosOf, effOpSize_noRexW hw, if_neg (mt (operandSizeOverride_iff ps).mp h)]
    cases mode <;> rfl
  · rw [eosOf, effOpSize_noRexW hw, if_pos ((operandSizeOverride_iff ps).mpr h)]
    cases mode <;> rfl
  · rw [easOf_default h]
    cases mode <;> rfl
  · rw [easOf_override h]
    cases mode <;> rfl

/-! ## Memory descriptors -/

/-- Settles O50: by the addressing form of the record. -/
theorem memoryDescriptorsByForm : Obligations.MemoryDescriptorsByForm := by
  refine ⟨fun n rexp => ⟨rfl, rfl, rfl⟩, fun mode eas m sib disp => ?_⟩
  unfold memDescriptor
  cases m.form with
  | direct | base | noBase16 | pair16 => rfl
  | noBase => cases mode <;> rfl
  | sib =>
    rintro x rfl
    rfl

end Sys2Proof.Machine

/-! ## The r/m operand -/

namespace Sys2Proof.Machine

open Claims Txn

section

variable {s : State} {b : Byte} {sib : Option Sib} {disp : Option Displacement} {w : Width}

theorem rmOperand_register (h3 : modOf b = 3) :
    s.rmOperand (decodeModRM b s.mode s.tx.rex) sib disp w
      = some (.reg (namedReg (decodeModRM b s.mode s.tx.rex).rm w s.tx.rex.isSome) w) := by
  rw [State.rmOperand, directRegister_direct h3]

theorem rmOperand_memory (h3 : modOf b ≠ 3) (hl : s.mode = .m64 ∨ Prefix.addressSizeOverride ∉ s.tx.prefixes) :
    ∃ d, memDescriptor s.mode s.eas (decodeModRM b s.mode s.tx.rex) sib disp = some d
      ∧ s.rmOperand (decodeModRM b s.mode s.tx.rex) sib disp w = some (.mem d w) := by
  obtain ⟨d, hd, -, -⟩ := memDescriptor_memory (mode := s.mode) (rex := s.tx.rex) h3 s.eas sib disp
  have hlegal : legalAddrSize s.mode s.eas = true := (legalAddrSize_easOf _ _).mpr hl
  refine ⟨d, hd, ?_⟩
  simp only [State.rmOperand, directRegister_memory h3, hlegal, if_true, hd, Option.map_some]

theorem rmOperand_illegal (h3 : modOf b ≠ 3) (hm : s.mode ≠ .m64) (ha : Prefix.addressSizeOverride ∈ s.tx.prefixes) :
    s.rmOperand (decodeModRM b s.mode s.tx.rex) sib disp w = none := by
  have hlegal : legalAddrSize s.mode s.eas ≠ true := fun hl => ((legalAddrSize_easOf _ _).mp hl).elim hm fun h => h ha
  simp only [State.rmOperand, directRegister_memory h3, if_neg hlegal]

end

/-! ## The rows with a ModR/M byte -/

/-- Templates in which the r/m operand comes first, or right after the register of the reg field: before any immediate. -/
def rmBeforeImmediate : List Template → Bool
  | .E _ :: _ | .M _ :: _ | .G _ :: .E _ :: _ | .G _ :: .M _ :: _ => true
  | _ => false

/-- A row with a ModR/M byte has an entry behind one opcode byte, its encoding reads that byte, and its r/m operand comes before any
immediate (42_alu.md to 45_mov_lea_push_incdec.md). -/
theorem rowsModRM_entry : ∀ x ∈ rowsModRM, isEntryRow x.1 = true ∧ (encode x.1).take x.1.opLen = [x.2.1]
    ∧ (rowEntry x.1).identity = x.2.2 ∧ (rowEntry x.1).encoding.hasModRM = true
    ∧ rmBeforeImmediate (rowEntry x.1).templates = true := by
  simp only [rowsModRM, List.forall_mem_append]
  refine ⟨⟨⟨⟨⟨⟨⟨?_, ?_⟩, ?_⟩, ?_⟩, ?_⟩, ?_⟩, ?_⟩, ?_⟩ <;> decide

/-- The meaning of a row with a ModR/M byte. -/
theorem exec_rowModRM {x : Instr × Byte × OpcodeIdentity} (hx : x ∈ rowsModRM) (s : State) :
    exec x.1 s = runEntry [x.2.1] x.2.2 (rowEntry x.1).encoding (rowEntry x.1).templates s := by
  obtain ⟨hentry, hbytes, hid, -, -⟩ := rowsModRM_entry x hx
  rw [exec_entry x.1 hentry, hbytes, hid]

/-- The four encodings with a ModR/M byte read the same addressing bytes (30_encoding.md R99). -/
theorem addressing_of_hasModRM {enc enc' : Encoding} (h : enc.hasModRM = true) (h' : enc'.hasModRM = true) (buf : Buffer)
    (mode : CpuMode) (rex : Option Rex) (p : Nat) : addressing buf mode rex enc p = addressing buf mode rex enc' p := by
  unfold addressing
  rw [if_pos ((hasModRM_iff enc).mp h), if_pos ((hasModRM_iff enc').mp h')]

/-- The record the addressing stages give is that of the ModR/M byte they read. -/
theorem modrm_of_addressing {buf : Buffer} {mode : CpuMode} {rex : Option Rex} {enc : Encoding} {p q : Nat} {m : ModRM}
    {sib : Option Sib} {disp : Option Displacement} (he : enc.hasModRM = true)
    (h : addressing buf mode rex enc p = .ok ⟨some m, sib, disp⟩ q) : ∃ b, m = decodeModRM b mode rex := by
  obtain ⟨b, -, -, hm, -, -⟩ := addressing_stages ((hasModRM_iff enc).mp he) h
  exact ⟨b, Option.some.inj hm⟩

/-- An r/m operand that raises ends the operands there: at most the register of the reg field is resolved before it, which reads no
byte. -/
theorem operands_of_resolveRM_raise {r : Ready} {m : ModRM} {e : DecodeError} {p : Nat} (hm : r.addr.modrm = some m)
    (hraise : ∀ c, Txn.resolveRM r m c p = .raise e p) {T : List Template} (hT : rmBeforeImmediate T = true) (buf : Buffer) :
    operands buf r T [] p = .raise e p := by
  unfold rmBeforeImmediate at hT
  split at hT
  case h_5 => cases hT
  all_goals simp only [operands, Txn.resolve, hm, hraise, Got.ok_bind, Got.raise_bind]

/-- A memory operand at an address size the mode does not allow raises InvalidAddressSize (60_exceptions.md R406). -/
theorem resolveRM_illegal {r : Ready} {m : ModRM} (hd : directRegister m = none) (hl : legalAddrSize r.mode r.eas = false)
    (c : SizeClass) (p : Nat) : Txn.resolveRM r m c p = .raise (.invalidAddressSize r.mode r.eas) p := by
  unfold Txn.resolveRM
  rw [hd]
  cases memDescriptor r.mode r.eas m r.addr.sib r.addr.disp with
  | none => rfl
  | some d => simp only [hl, Bool.false_eq_true, if_false]

/-- A row with a ModR/M byte whose memory operand has an address size that is not legal fails after the addressing bytes. -/
theorem exec_illegalAddrSize {x : Instr × Byte × OpcodeIdentity} (hx : x ∈ rowsModRM) {s : State} {m : ModRM} {sib : Option Sib}
    {disp : Option Displacement} {p : Nat}
    (ha : addressing s.buf s.mode s.tx.rex .MR (s.pos + 1) = .ok ⟨some m, sib, disp⟩ p) (h3 : modOf m.raw ≠ 3)
    (hl : legalAddrSize s.mode s.eas = false) : exec x.1 s = .next (s.failed (.invalidAddressSize s.mode s.eas) p) := by
  obtain ⟨-, -, -, henc, htemplates⟩ := rowsModRM_entry x hx
  obtain ⟨b, rfl⟩ := modrm_of_addressing rfl ha
  rw [addressing_of_hasModRM rfl henc] at ha
  rw [exec_rowModRM hx]
  exact runEntry_failed s x.2.1 _ _ _ ha
    (operands_of_resolveRM_raise rfl (fun c => resolveRM_illegal (directRegister_memory h3) hl c p) htemplates s.buf)

/-- Settles O31: the address size 0x67 selects is legal in 64-bit mode only. -/
theorem addressSizeOverrideWithMemoryRaises : Obligations.AddressSizeOverrideWithMemoryRaises := by
  refine ⟨fun s b sib disp w => ⟨rmOperand_register, rmOperand_memory, rmOperand_illegal⟩, ?_⟩
  intro x hx s m sib disp p ha h3 hover
  have heas : s.eas = effAddrSize s.mode true := easOf_override hover s.mode
  refine ⟨fun hm => ?_, fun hm => ?_⟩
  all_goals
    rw [hm] at heas
    have hfail := exec_illegalAddrSize hx ha h3 (by rw [hm, heas]; rfl)
    rw [hm, heas] at hfail
    exact hfail

end Sys2Proof.Machine

/-! ## Widening -/

namespace Sys2Proof

/-- The value as a signed number: two's complement at its width (00_scope.md R8). -/
def Sized.toInt : Sized → Int
  | .b8 v => v.toInt
  | .b16 v => v.toInt
  | .b32 v => v.toInt
  | .b64 v => v.toInt

theorem Sized.toNat_lt (v : Sized) : v.toNat < 2 ^ v.width.bits := by
  cases v <;> exact BitVec.isLt _

theorem Sized.toInt_eq (v : Sized) :
    v.toInt = if 2 * v.toNat < 2 ^ v.width.bits then (v.toNat : Int) else v.toNat - (2 ^ v.width.bits : Nat) := by
  cases v <;> exact BitVec.toInt_eq_toNat_cond _

/-- A value is its width and its signed number. -/
theorem Sized.eq_of_toInt_eq {v v' : Sized} (hw : v.width = v'.width) (h : v.toInt = v'.toInt) : v = v' := by
  cases v <;> cases v' <;> cases hw
  all_goals exact congrArg _ (BitVec.eq_of_toInt_eq h)

theorem Width.bits_pos (w : Width) : 0 < w.bits := by cases w <;> decide

theorem Width.bits_injective {w w' : Width} (h : w.bits = w'.bits) : w = w' := by
  cases w <;> cases w' <;> cases h <;> rfl

end Sys2Proof

namespace Sys2Proof.Machine

/-- Sign extension keeps the signed number (00_scope.md R8). -/
theorem toInt_sext (v : Sized) (w : Width) : (sext v w).toInt = v.toInt := by
  unfold sext
  split
  case h_7 => rfl
  all_goals exact BitVec.toInt_signExtend_of_le (by decide)

/-- Sign extension takes a value to a larger width, and to no smaller one. -/
theorem width_sext (v : Sized) (w : Width) : (sext v w).width = if v.width.bits < w.bits then w else v.width := by
  cases v <;> cases w <;> rfl

theorem sext_of_bits_le {v : Sized} {w : Width} (h : w.bits ≤ v.width.bits) : sext v w = v :=
  Sized.eq_of_toInt_eq ((width_sext v w).trans (if_neg (Nat.not_lt.mpr h))) (toInt_sext v w)

theorem width_sext_of_bits_le {v : Sized} {w : Width} (h : v.width.bits ≤ w.bits) : (sext v w).width = w := by
  rw [width_sext]
  split
  · rfl
  · exact Width.bits_injective (by omega)

theorem sext_sext {v : Sized} {w w' : Width} (h : v.width.bits ≤ w.bits) (h' : w.bits ≤ w'.bits) :
    sext (sext v w) w' = sext v w' := by
  have hw := width_sext_of_bits_le h
  refine Sized.eq_of_toInt_eq ?_ ?_
  · rw [width_sext_of_bits_le (h.trans h'), width_sext_of_bits_le (by rwa [hw])]
  · rw [toInt_sext, toInt_sext, toInt_sext]

/-- Sign extension to a larger width in unsigned numbers: a value with its top bit clear stays, one with it set gains all the bits
above (00_scope.md R8). -/
theorem toNat_sext {v : Sized} {w : Width} (h : v.width.bits < w.bits) :
    (v.toNat < 2 ^ (v.width.bits - 1) → (sext v w).toNat = v.toNat)
      ∧ (2 ^ (v.width.bits - 1) ≤ v.toNat → (sext v w).toNat = 2 ^ w.bits - 2 ^ v.width.bits + v.toNat) := by
  have hint := toInt_sext v w
  have hlt := (sext v w).toNat_lt
  rw [Sized.toInt_eq, Sized.toInt_eq, width_sext_of_bits_le h.le] at hint
  rw [width_sext_of_bits_le h.le] at hlt
  have hv := v.toNat_lt
  have hhalf : 2 ^ v.width.bits = 2 * 2 ^ (v.width.bits - 1) := (mul_pow_sub_one v.width.bits_pos.ne' 2).symm
  have hle : 2 * 2 ^ v.width.bits ≤ 2 ^ w.bits := by
    rw [← pow_succ']
    exact Nat.pow_le_pow_right (by decide) h
  refine ⟨fun hclear => ?_, fun hset => ?_⟩
  · split_ifs at hint <;> omega
  · split_ifs at hint <;> omega

theorem widen_signed {i : Immediate} (h : i.signed = true) (w : Width) : widen i w = ⟨sext i.value w, true⟩ := by
  simp only [widen, h, if_true]

theorem immediateAfter_of_getLast? {ops : List ResolvedOperand} {o : ResolvedOperand} (h : ops.getLast? = some o) (v : Sized) :
    immediateAfter ops v = widen ⟨v, true⟩ (operandWidth o) := by
  simp only [immediateAfter, h]

/-- Settles O51: a signed immediate is widened by sign extension, which is determined by the width it ends at and the signed number
it keeps. -/
theorem wideningIsSignExtension : Obligations.WideningIsSignExtension := by
  refine ⟨fun ops v => ⟨Txn.signed_immediateAfter ops v, ?_, fun o ho => immediateAfter_of_getLast? ho v⟩, ?_⟩
  · rintro rfl
    rfl
  · rintro ⟨v, -⟩ w2 w3 rfl
    simp only [widen_signed]
    refine ⟨trivial, fun h => by rw [sext_of_bits_le h], fun h => ⟨width_sext_of_bits_le h.le, toNat_sext h⟩, fun h h' => ?_⟩
    rw [sext_sext h h']

end Sys2Proof.Machine

/-! ## The ALU rows, Mov and Lea: how a row of one opcode byte completes -/

namespace Sys2Proof.Machine

open Claims Txn

/-- The row x stands behind its one opcode byte and has its identity, the encoding `enc` and the templates `T`. -/
abbrev RowIs (x : Instr × Byte × OpcodeIdentity) (enc : Encoding) (T : List Template) : Prop :=
  isEntryRow x.1 = true ∧ (encode x.1).take x.1.opLen = [x.2.1] ∧ rowEntry x.1 = ⟨x.2.2, enc, T⟩

theorem RowIs.exec_eq {x : Instr × Byte × OpcodeIdentity} {enc : Encoding} {T : List Template} (h : RowIs x enc T) (s : State) :
    exec x.1 s = runEntry [x.2.1] x.2.2 enc T s := by
  obtain ⟨hentry, hbytes, hrow⟩ := h
  rw [exec_entry x.1 hentry, hbytes, hrow]

theorem rowsEbGb_are : ∀ x ∈ rowsEbGb, RowIs x .MR [.E .B, .G .B] := by decide

theorem rowsEvGv_are : ∀ x ∈ rowsEvGv, RowIs x .MR [.E .V, .G .V] := by decide

theorem rowsGbEb_are : ∀ x ∈ rowsGbEb, RowIs x .RM [.G .B, .E .B] := by decide

/-- Lea has the template M where the ALU rows have E (45_mov_lea_push_incdec.md R301). -/
theorem rowsGvEv_are : ∀ x ∈ rowsGvEv, ∃ t ∈ [Template.E .V, .M .V], RowIs x .RM [.G .V, t] := by decide

theorem rowsALIb_are : ∀ x ∈ rowsALIb, RowIs x .I [.Fixed .al, .I .B] := by decide

theorem rowsRAXIz_are : ∀ x ∈ rowsRAXIz, RowIs x .I [.Family .accumulator .V, .I .Z] := by decide

/-- What the templates of a row at s are resolved from, after its addressing bytes. -/
def State.ready (s : State) (b : Byte) (a : Addressing) : Ready := ⟨s.mode, s.tx.rex, b, a, s.eos, s.eas⟩

/-- A row whose operands resolve returns them. -/
theorem RowIs.returned {x : Instr × Byte × OpcodeIdentity} {enc : Encoding} {T : List Template} (h : RowIs x enc T) {s : State}
    {a : Addressing} {q r : Nat} {ops : List ResolvedOperand}
    (ha : addressing s.buf s.mode s.tx.rex enc (s.pos + 1) = .ok a q)
    (ho : operands s.buf (s.ready x.2.1 a) T [] q = .ok ops r) :
    exec x.1 s = .next (s.returned (s.built [x.2.1] x.2.2 enc a ops r) r) := by
  rw [h.exec_eq]
  exact runEntry_returned s x.2.1 x.2.2 enc T ha ho

/-- A row one of whose operands raises an error fails with it. -/
theorem RowIs.failed {x : Instr × Byte × OpcodeIdentity} {enc : Encoding} {T : List Template} (h : RowIs x enc T) {s : State}
    {a : Addressing} {q r : Nat} {e : DecodeError}
    (ha : addressing s.buf s.mode s.tx.rex enc (s.pos + 1) = .ok a q)
    (ho : operands s.buf (s.ready x.2.1 a) T [] q = .raise e r) :
    exec x.1 s = .next (s.failed e r) := by
  rw [h.exec_eq]
  exact runEntry_failed s x.2.1 x.2.2 enc T ha ho

/-! ## Register and r/m operands -/

section

variable {s : State} {m : ModRM} {sib : Option Sib} {disp : Option Displacement} {c : SizeClass} {o : ResolvedOperand}

/-- The templates E and M resolve alike, to the r/m operand (40_decode_pipeline.md R150, R151). -/
theorem resolve_rm {t : Template} (ht : t ∈ [Template.E c, .M c])
    (ho : s.rmOperand m sib disp (classWidth c s.eos) = some o) (buf : Buffer) (b : Byte) (ops : List ResolvedOperand) (p : Nat) :
    Txn.resolve buf (s.ready b ⟨some m, sib, disp⟩) ops t p = .ok o p := by
  have hrm := resolveRM_ok ho b p
  simp only [List.mem_cons, List.not_mem_nil, or_false] at ht
  rcases ht with rfl | rfl
  · exact hrm
  · exact hrm

/-- The template G resolves to the register of the reg field (40_decode_pipeline.md R152). -/
theorem resolve_G (buf : Buffer) (b : Byte) (ops : List ResolvedOperand) (p : Nat) :
    Txn.resolve buf (s.ready b ⟨some m, sib, disp⟩) ops (.G c) p = .ok (s.regFieldOperand m (classWidth c s.eos)) p := rfl

variable {x : Instr × Byte × OpcodeIdentity} {t : Template} {p : Nat}

/-- A row with an r/m operand and then a reg register returns the two. -/
theorem RowIs.returned_rm_reg (hx : RowIs x .MR [t, .G c]) (ht : t ∈ [Template.E c, .M c])
    (ha : addressing s.buf s.mode s.tx.rex .MR (s.pos + 1) = .ok ⟨some m, sib, disp⟩ p)
    (ho : s.rmOperand m sib disp (classWidth c s.eos) = some o) :
    exec x.1 s = .next (s.returned (s.built [x.2.1] x.2.2 .MR ⟨some m, sib, disp⟩
      [o, s.regFieldOperand m (classWidth c s.eos)] p) p) := by
  refine hx.returned ha ?_
  simp only [operands, resolve_rm ht ho, resolve_G, Got.ok_bind, List.nil_append, List.singleton_append]

/-- A row with a reg register and then an r/m operand returns the two. -/
theorem RowIs.returned_reg_rm (hx : RowIs x .RM [.G c, t]) (ht : t ∈ [Template.E c, .M c])
    (ha : addressing s.buf s.mode s.tx.rex .RM (s.pos + 1) = .ok ⟨some m, sib, disp⟩ p)
    (ho : s.rmOperand m sib disp (classWidth c s.eos) = some o) :
    exec x.1 s = .next (s.returned (s.built [x.2.1] x.2.2 .RM ⟨some m, sib, disp⟩
      [s.regFieldOperand m (classWidth c s.eos), o] p) p) := by
  refine hx.returned ha ?_
  simp only [operands, resolve_rm ht ho, resolve_G, Got.ok_bind, List.nil_append, List.singleton_append]

end

/-- Settles O13: both templates have class B, whose width is 8. -/
theorem ebGbRowsComplete : Obligations.EbGbRowsComplete := by
  intro x hx s m sib disp p o ha ho
  exact (rowsEbGb_are x hx).returned_rm_reg List.mem_cons_self ha ho

/-- Settles O14: both templates have class V, whose width is that of eos. -/
theorem evGvRowsComplete : Obligations.EvGvRowsComplete := by
  intro x hx s m sib disp p o ha ho
  exact (rowsEvGv_are x hx).returned_rm_reg List.mem_cons_self ha ho

/-- Settles O15: as the Eb, Gb rows with the two templates exchanged. -/
theorem gbEbRowsComplete : Obligations.GbEbRowsComplete := by
  intro x hx s m sib disp p o ha ho
  exact (rowsGbEb_are x hx).returned_reg_rm List.mem_cons_self ha ho

/-- Settles O16: E and M, the template of Lea, resolve alike. -/
theorem gvEvRowsComplete : Obligations.GvEvRowsComplete := by
  intro x hx s m sib disp p o ha ho
  obtain ⟨t, ht, hrow⟩ := rowsGvEv_are x hx
  exact hrow.returned_reg_rm ht ha ho

/-! ## The accumulator rows -/

/-- An immediate template reads its bytes at the position (40_decode_pipeline.md R155 to R157). -/
theorem resolve_I_of_value {s : State} {buf : Buffer} {c : SizeClass} {p v : Nat}
    (h : buf.value? p (immWidth c s.eos).bytes = some v) (b : Byte) (a : Addressing) (ops : List ResolvedOperand) :
    Txn.resolve buf (s.ready b a) ops (.I c) p
      = .ok (.imm (immediateAfter ops (sizedOfNat (immWidth c s.eos) v))) (p + (immWidth c s.eos).bytes) := by
  simp only [State.ready, Txn.resolve, Txn.readSized, h, Got.ok_bind]

/-- An immediate that runs past the buffer raises NotEnoughBytes at its first byte (60_exceptions.md R401, R411). -/
theorem resolve_I_of_short {s : State} {buf : Buffer} {c : SizeClass} {p : Nat}
    (h : buf.value? p (immWidth c s.eos).bytes = none) (b : Byte) (a : Addressing) (ops : List ResolvedOperand) :
    Txn.resolve buf (s.ready b a) ops (.I c) p = .raise (.notEnoughBytes (immWidth c s.eos).bytes) p := by
  simp only [State.ready, Txn.resolve, Txn.readSized, h, Got.raise_bind]

theorem bytes_immWidth_Z (eos : OperandSize) : (immWidth .Z eos).bytes = izBytes eos := by
  cases eos <;> rfl

theorem familyAt_accumulator (eos : OperandSize) : familyAt .accumulator (eosWidth eos) = accumulatorAt eos := by
  cases eos <;> rfl

/-- Beside an operand at eos a class Z immediate is sign-extended at eos 64 only (40_decode_pipeline.md R157). -/
theorem immediateAfter_iz {eos : OperandSize} {o : ResolvedOperand} (ho : operandWidth o = eosWidth eos) (v : Nat) :
    immediateAfter [o] (sizedOfNat (immWidth .Z eos) v) = izImm eos v := by
  rw [immediateAfter_of_getLast? List.getLast?_singleton, ho]
  cases eos <;> rfl

section

variable {s : State} {x : Instr × Byte × OpcodeIdentity} {t : Template} {c : SizeClass} {o : ResolvedOperand}

/-- A row without a ModR/M byte whose first operand reads no byte returns it and the immediate after the opcode byte. -/
theorem RowIs.returned_imm (hx : RowIs x .I [t, .I c])
    (ho : Txn.resolve s.buf (s.ready x.2.1 noAddressing) [] t (s.pos + 1) = .ok o (s.pos + 1)) {v : Nat}
    (hv : s.buf.value? (s.pos + 1) (immWidth c s.eos).bytes = some v) :
    exec x.1 s = .next (s.returned (s.built [x.2.1] x.2.2 .I noAddressing
      [o, .imm (immediateAfter [o] (sizedOfNat (immWidth c s.eos) v))] (s.pos + 1 + (immWidth c s.eos).bytes))
      (s.pos + 1 + (immWidth c s.eos).bytes)) := by
  refine hx.returned (a := noAddressing) rfl ?_
  simp only [operands, ho, resolve_I_of_value hv, Got.ok_bind, List.nil_append, List.singleton_append]

/-- Without its immediate such a row fails at the byte after the opcode. -/
theorem RowIs.failed_imm (hx : RowIs x .I [t, .I c])
    (ho : Txn.resolve s.buf (s.ready x.2.1 noAddressing) [] t (s.pos + 1) = .ok o (s.pos + 1))
    (hv : s.buf.value? (s.pos + 1) (immWidth c s.eos).bytes = none) :
    exec x.1 s = .next (s.failed (.notEnoughBytes (immWidth c s.eos).bytes) (s.pos + 1)) := by
  refine hx.failed (a := noAddressing) rfl ?_
  simp only [operands, ho, resolve_I_of_short hv, Got.ok_bind, Got.raise_bind]

end

/-- Settles O17: AL is 8 bits, so the 8-bit immediate beside it is not widened. -/
theorem alIbRowsComplete : Obligations.ALIbRowsComplete := by
  intro x hx s
  have hrow := rowsALIb_are x hx
  exact ⟨fun v hv => hrow.returned_imm rfl hv, fun hv => hrow.failed_imm rfl hv⟩

/-- Settles O18: the accumulator and the class Z immediate beside it, at eos. -/
theorem raxIzRowsComplete : Obligations.RAXIzRowsComplete := by
  intro x hx s
  have hrow := rowsRAXIz_are x hx
  have hacc : Txn.resolve s.buf (s.ready x.2.1 noAddressing) [] (.Family .accumulator .V) (s.pos + 1)
      = .ok (.reg (accumulatorAt s.eos) (eosWidth s.eos)) (s.pos + 1) := by
    rw [← familyAt_accumulator]
    rfl
  simp only [← bytes_immWidth_Z, ← immediateAfter_iz (o := .reg (accumulatorAt s.eos) (eosWidth s.eos)) rfl]
  exact ⟨fun v hv => hrow.returned_imm hacc hv, fun hv => hrow.failed_imm hacc hv⟩

end Sys2Proof.Machine

/-! ## The group 1 rows: an r/m operand and an immediate -/

namespace Sys2Proof.Machine

open Claims Txn

theorem rowsEbIb_are : ∀ x ∈ rowsEbIb, RowIs x .MI [.E .B, .I .B] := by decide

theorem rowsEvIz_are : ∀ x ∈ rowsEvIz, RowIs x .MI [.E .V, .I .Z] := by decide

theorem rowsEvIb_are : ∀ x ∈ rowsEvIb, RowIs x .MI [.E .V, .I .B] := by decide

/-- Beside an operand of 8 bits an 8-bit immediate is not widened (40_decode_pipeline.md R157). -/
theorem immediateAfter_b8 {o : ResolvedOperand} (ho : operandWidth o = .w8) (v : BitVec 8) :
    immediateAfter [o] (.b8 v) = ⟨.b8 v, true⟩ := by
  rw [immediateAfter_of_getLast? List.getLast?_singleton, ho]
  rfl

/-- Beside an operand at eos a class B immediate is sign-extended to eos (40_decode_pipeline.md R157). -/
theorem immediateAfter_ib {eos : OperandSize} {o : ResolvedOperand} (ho : operandWidth o = eosWidth eos) (v : Nat) :
    immediateAfter [o] (sizedOfNat (immWidth .B eos) v) = ibImm eos v := by
  rw [immediateAfter_of_getLast? List.getLast?_singleton, ho]
  cases eos <;> rfl

/-- A row with an r/m operand and then an immediate returns the operand and the immediate that stands after the addressing
bytes. -/
theorem RowIs.returned_rm_imm {x : Instr × Byte × OpcodeIdentity} {c c' : SizeClass} (hx : RowIs x .MI [.E c, .I c'])
    {s : State} {m : ModRM} {sib : Option Sib} {disp : Option Displacement} {p v : Nat} {o : ResolvedOperand}
    (ha : addressing s.buf s.mode s.tx.rex .MI (s.pos + 1) = .ok ⟨some m, sib, disp⟩ p)
    (ho : s.rmOperand m sib disp (classWidth c s.eos) = some o)
    (hv : s.buf.value? p (immWidth c' s.eos).bytes = some v) :
    exec x.1 s = .next (s.returned (s.built [x.2.1] x.2.2 .MI ⟨some m, sib, disp⟩
      [o, .imm (immediateAfter [o] (sizedOfNat (immWidth c' s.eos) v))] (p + (immWidth c' s.eos).bytes))
      (p + (immWidth c' s.eos).bytes)) := by
  refine hx.returned ha ?_
  simp only [operands, resolve_rm List.mem_cons_self ho, resolve_I_of_value hv, Got.ok_bind, List.nil_append,
    List.singleton_append]

/-- Settles O19: operand and immediate are both 8 bits, so the immediate is not widened. -/
theorem ebIbRowsComplete : Obligations.EbIbRowsComplete := by
  intro x hx s m sib disp p v o ha ho hv
  rw [← immediateAfter_b8 (operandWidth_rmOperand ho)]
  exact (rowsEbIb_are x hx).returned_rm_imm ha ho hv

/-- Settles O20: the class Z immediate is as long as eos selects, and is widened beside a 64-bit operand only. -/
theorem evIzRowsComplete : Obligations.EvIzRowsComplete := by
  intro x hx s m sib disp p v o ha ho hv
  rw [← bytes_immWidth_Z] at hv
  rw [← bytes_immWidth_Z, ← immediateAfter_iz (operandWidth_rmOperand ho)]
  exact (rowsEvIz_are x hx).returned_rm_imm ha ho hv

/-- Settles O21: one byte is read at each eos, and is widened to the width of the operand beside it. -/
theorem evIbRowsComplete : Obligations.EvIbRowsComplete := by
  intro x hx s m sib disp p v o ha ho hv
  rw [← immediateAfter_ib (operandWidth_rmOperand ho)]
  exact (rowsEvIb_are x hx).returned_rm_imm ha ho hv

end Sys2Proof.Machine

/-! ## The opcode 0xFF rows: one r/m operand, and the reserved extension -/

namespace Sys2Proof.Machine

open Claims Txn

/-- CallFar and JmpFar have the template M of class P, the others E of class V (44_group5.md R290 to R296). -/
theorem rowsGroup5_are : ∀ x ∈ rowsGroup5, RowIs x .M [.E .V] ∨ RowIs x .M [.M .P] := by decide

/-- A row with an r/m operand alone returns it. -/
theorem RowIs.returned_rm {x : Instr × Byte × OpcodeIdentity} {t : Template} {c : SizeClass} (hx : RowIs x .M [t])
    (ht : t ∈ [Template.E c, .M c]) {s : State} {m : ModRM} {sib : Option Sib} {disp : Option Displacement} {p : Nat}
    {o : ResolvedOperand} (ha : addressing s.buf s.mode s.tx.rex .M (s.pos + 1) = .ok ⟨some m, sib, disp⟩ p)
    (ho : s.rmOperand m sib disp (classWidth c s.eos) = some o) :
    exec x.1 s = .next (s.returned (s.built [x.2.1] x.2.2 .M ⟨some m, sib, disp⟩ [o] p) p) := by
  refine hx.returned ha ?_
  simp only [operands, resolve_rm ht ho, Got.ok_bind, List.nil_append]

/-- Settles O22: E and M resolve alike, and both class V and class P have the width of eos. -/
theorem groupFiveRowsComplete : Obligations.GroupFiveRowsComplete := by
  intro x hx s m sib disp p o ha ho
  rcases rowsGroup5_are x hx with hrow | hrow
  · exact hrow.returned_rm List.mem_cons_self ha ho
  · exact hrow.returned_rm (List.mem_cons_of_mem _ List.mem_cons_self) ha ho

/-- Settles O29: each of the five rows is `runError` of its error behind the opcode bytes of the row. -/
theorem errorRowsRaise : Obligations.ErrorRowsRaise := fun _ s =>
  ⟨runError_eq 1 _ s, runError_eq 1 _ s, runError_eq 2 _ s, runError_eq 2 _ s, runError_eq 3 _ s⟩

end Sys2Proof.Machine

/-! ## The Push, Inc and Dec rows of one opcode byte -/

namespace Sys2Proof.Machine

open Claims Txn

/-- A row whose one operand reads no byte, like its addressing, returns that operand right behind the opcode byte. -/
theorem RowIs.returned_single {x : Instr × Byte × OpcodeIdentity} {enc : Encoding} {t : Template} {o : ResolvedOperand}
    (hx : RowIs x enc [t]) {s : State}
    (ha : addressing s.buf s.mode s.tx.rex enc (s.pos + 1) = .ok noAddressing (s.pos + 1))
    (ho : Txn.resolve s.buf (s.ready x.2.1 noAddressing) [] t (s.pos + 1) = .ok o (s.pos + 1)) :
    exec x.1 s = .next (s.returned (s.built [x.2.1] x.2.2 enc noAddressing [o] (s.pos + 1)) (s.pos + 1)) := by
  refine hx.returned ha ?_
  simp only [operands, ho, Got.ok_bind, List.nil_append]

/-- The register number of an opcode byte is its last 3 bits, extended by REX.B (40_decode_pipeline.md R153). -/
theorem opcodeReg_append (mode : CpuMode) (rex : Option Rex) (h : BitVec 5) (r : BitVec 3) :
    opcodeReg mode rex (h ++ r) = extend mode (rexBit Rex.b rex) r :=
  congrArg (extend mode (rexBit Rex.b rex)) BitVec.extractLsb'_append_eq_right

/-- The template O resolves to the register in the low 3 bits of the opcode byte (40_decode_pipeline.md R153). -/
theorem resolve_O (s : State) (buf : Buffer) (h : BitVec 5) (r : BitVec 3) (a : Addressing) (ops : List ResolvedOperand)
    (c : SizeClass) (p : Nat) :
    Txn.resolve buf (s.ready (h ++ r) a) ops (.O c) p
      = .ok (.reg (namedReg (extend s.mode (rexBit Rex.b s.tx.rex) r) (classWidth c s.eos) s.tx.rex.isSome)
          (classWidth c s.eos)) p := by
  rw [← opcodeReg_append s.mode s.tx.rex h r]
  rfl

theorem rowsOpcodeReg_are : ∀ x ∈ rowsOpcodeReg, ∀ r, RowIs (x.1 r, x.2.1 ++ r, x.2.2) .O [.O .V] := by decide

theorem rowsPushSeg_are : ∀ x ∈ rowsPushSeg, RowIs (x.1, x.2.1, .push) .ZO [.Seg x.2.2] := by decide

/-- Settles O23: the one template is O of class V, whose width is that of eos. -/
theorem opcodeRegisterRowsComplete : Obligations.OpcodeRegisterRowsComplete := by
  intro x hx r s
  exact (rowsOpcodeReg_are x hx r).returned_single rfl (resolve_O s s.buf x.2.1 r noAddressing [] .V (s.pos + 1))

/-- Settles O24: the one template names the segment register, which is the operand in every state. -/
theorem pushSegmentRowsComplete : Obligations.PushSegmentRowsComplete := by
  intro x hx s
  exact (rowsPushSeg_are x hx).returned_single rfl rfl

end Sys2Proof.Machine

/-! ## The escape byte -/

namespace Sys2Proof.Machine

open Claims

/-- A row without operands returns right behind its opcode bytes, however many they are (40_decode_pipeline.md R143, R160). -/
theorem runEntry_noOperands (b : Byte) (opbytes : List Byte) (identity : OpcodeIdentity) (s : State) :
    runEntry (b :: opbytes) identity .ZO [] s
      = .next (s.returned (s.built (b :: opbytes) identity .ZO noAddressing [] (s.pos + (b :: opbytes).length))
          (s.pos + (b :: opbytes).length)) :=
  runEntry_eq b opbytes identity .ZO [] s

/-- Settles O25: both rows have three opcode bytes and no operands. -/
theorem endBrRowsComplete : Obligations.EndBrRowsComplete := fun s =>
  ⟨runEntry_noOperands 0x0F [0x1E, 0xFA] .endBr64 s, runEntry_noOperands 0x0F [0x1E, 0xFB] .endBr32 s⟩

/-- A step with the escape byte at the cursor runs the row that the prefixes and the two bytes after it give (46_escape.md R310). -/
theorem step_escape {s : State} {i : Instr} (hstage : s.tx.stage = .awaitingOpcode ∨ s.tx.stage = .haveRex)
    (hstart : s.atStart = true → s.calls = []) (hb : s.buf.byte? s.pos = some 0x0F)
    (hd : decodeEscape s.tx.prefixes (s.buf.window (s.pos + 1) 2) = .ok i) : step s = exec i s := by
  have hpos : s.pos ≤ s.buf.len := (Buffer.byte?_eq_some.mp hb).1.le
  have hfound : decode s.ctx s.fetch = .ok i := by rw [fetch_some hb, decode_escape]; exact hd
  rw [step_lookup hstage fun hs => ⟨hstart hs, hpos⟩, lookupAndRun_ok hfound]

/-- Settles O33: R310 asks first for a prefix other than Rep, then for any prefix, then for the second and the third byte. -/
theorem escapeDispatch : Obligations.EscapeDispatch := by
  intro s hstage hstart hb
  have hstep : ∀ {i : Instr}, decodeEscape s.tx.prefixes (s.buf.window (s.pos + 1) 2) = .ok i → step s = exec i s :=
    step_escape hstage hstart hb
  refine ⟨fun hp b2 hb2 => ?_, fun hq => ?_, fun hp hall b2 hb2 => ?_⟩
  · obtain ⟨-, -, hraise, -, -⟩ := errorRowsRaise b2 s
    rw [Buffer.window_some hb2, hp] at hstep
    exact (hstep (decodeEscape_noPrefix b2 _)).trans hraise
  · obtain ⟨-, hraise, -, -, -⟩ := errorRowsRaise 0 s
    exact (hstep (decodeEscape_otherThanRep ((someNotRep_iff _).mpr hq) _)).trans hraise
  · have hrep : allRep s.tx.prefixes = true := by simpa [allRep, hp] using hall
    rw [Buffer.window_some hb2] at hstep
    refine ⟨fun h2 => ?_, fun h2 b3 hb3 => ?_⟩
    · obtain ⟨-, -, -, hraise, -⟩ := errorRowsRaise b2 s
      exact (hstep (decodeEscape_secondByte hrep h2 _)).trans hraise
    · obtain ⟨h64, h32⟩ := endBrRowsComplete s
      obtain ⟨-, -, -, -, hraise⟩ := errorRowsRaise b3 s
      rw [h2, Buffer.window_some hb3] at hstep
      have hrow : step s = exec (if b3 = 0xFA then .endBr64 else if b3 = 0xFB then .endBr32 else .escapeRepThirdByte b3) s :=
        hstep (decodeEscape_thirdByte hrep b3 _)
      refine ⟨fun hA hB => ?_, fun hA => ?_, fun hB => ?_⟩
      · rw [if_neg hA, if_neg hB] at hrow
        exact hrow.trans hraise
      · rw [if_pos hA] at hrow
        exact hrow.trans h64
      · rw [hB] at hrow
        exact hrow.trans h32

end Sys2Proof.Machine

/-! ## What a part of a transaction can raise -/

namespace Sys2Proof.Machine

namespace Txn

/-- If the part raises an error, then one of `P`, at its position. -/
def Got.Raises {α : Type} (P : DecodeError → Nat → Prop) : Got α → Prop
  | .ok _ _ => True
  | .raise e p => P e p

namespace Got.Raises

variable {α β : Type} {P Q : DecodeError → Nat → Prop} {g : Got α}

theorem mono (h : g.Raises P) (hPQ : ∀ e p, P e p → Q e p) : g.Raises Q := by
  cases g with
  | ok a p => trivial
  | raise e p => exact hPQ e p h

theorem bind {k : α → Nat → Got β} (h : g.Raises P) (hk : ∀ a p, g = .ok a p → (k a p).Raises P) : (g.bind k).Raises P := by
  cases g with
  | ok a p => exact hk a p rfl
  | raise e p => exact h

end Got.Raises

/-- NotEnoughBytes of a read of 1, 2 or 4 bytes that are not all in the buffer (60_exceptions.md R401). -/
def ShortRead (buf : Buffer) (e : DecodeError) (p : Nat) : Prop :=
  ∃ n, (n = 1 ∨ n = 2 ∨ n = 4) ∧ e = .notEnoughBytes n ∧ buf.len < p + n

/-- The errors that can be raised (60_exceptions.md R408). -/
def Reachable (e : DecodeError) (_ : Nat) : Prop := e ≠ .invalidModRM

variable {buf : Buffer}

theorem ShortRead.reachable {e : DecodeError} {p : Nat} (h : ShortRead buf e p) : Reachable e p := by
  obtain ⟨n, -, rfl, -⟩ := h
  exact DecodeError.noConfusion

theorem raises_read8 (p : Nat) : (read8 buf p).Raises (ShortRead buf) := by
  unfold read8
  cases h : buf.byte? p with
  | some b => trivial
  | none => exact ⟨1, .inl rfl, rfl, Nat.lt_succ_of_le (Buffer.byte?_eq_none.mp h)⟩

theorem raises_readSized {w : Width} (hw : w.bytes ≤ 4) (p : Nat) : (readSized buf w p).Raises (ShortRead buf) := by
  have hn : w.bytes = 1 ∨ w.bytes = 2 ∨ w.bytes = 4 := by revert hw; cases w <;> decide
  unfold readSized
  cases h : buf.value? p w.bytes with
  | some v => trivial
  | none => exact ⟨w.bytes, hn, rfl, Buffer.value?_eq_none.mp h⟩

theorem raises_readSib (mode : CpuMode) (rex : Option Rex) (m : ModRM) (p : Nat) :
    (readSib buf mode rex m p).Raises (ShortRead buf) := by
  unfold readSib
  split
  · exact (raises_read8 p).bind fun _ _ _ => trivial
  · trivial

theorem raises_readDisp (m : ModRM) (sib : Option Sib) (p : Nat) : (readDisp buf m sib p).Raises (ShortRead buf) := by
  unfold readDisp
  cases hw : dispWidth m sib with
  | none => trivial
  | some w => exact (raises_readSized (dispWidth_bytes_le hw) p).bind fun _ _ _ => trivial

/-- The addressing stages fail only for want of bytes (40_decode_pipeline.md R140 to R142). -/
theorem raises_addressing (mode : CpuMode) (rex : Option Rex) (enc : Encoding) (p : Nat) :
    (addressing buf mode rex enc p).Raises (ShortRead buf) := by
  unfold addressing
  split
  · refine (raises_read8 p).bind fun b p _ => ?_
    refine (raises_readSib mode rex _ p).bind fun sib p _ => ?_
    exact (raises_readDisp _ sib p).bind fun _ _ _ => trivial
  · trivial

/-- There is a ModR/M record just for the encodings that read one (30_encoding.md R99). -/
theorem modrm_isSome_of_addressing {mode : CpuMode} {rex : Option Rex} {enc : Encoding} {p q : Nat} {a : Addressing}
    (h : addressing buf mode rex enc p = .ok a q) : a.modrm.isSome = enc.hasModRM := by
  by_cases he : enc.hasModRM = true
  · obtain ⟨b, -, -, hm, -⟩ := addressing_stages ((hasModRM_iff enc).mp he) h
    rw [hm, he]
    rfl
  · rw [addressing, if_neg (mt (hasModRM_iff enc).mpr he)] at h
    cases h
    exact (Bool.eq_false_iff.mpr he).symm

theorem raises_resolveRM (r : Ready) (m : ModRM) (c : SizeClass) (p : Nat) : (resolveRM r m c p).Raises Reachable := by
  unfold resolveRM
  split
  · trivial
  · split
    · trivial
    · exact DecodeError.noConfusion
  · exact DecodeError.noConfusion

/-- A template that reads a ModR/M record finds one, so the guard of 40_decode_pipeline.md R159 does not raise. -/
theorem raises_resolve {r : Ready} {w : Width} {t : Template} (ht : Resolvable r w t) (ops : List ResolvedOperand) (p : Nat) :
    (resolve buf r ops t p).Raises Reachable := by
  obtain ⟨hread, -⟩ := ht
  cases t with
  | E c | M c =>
    obtain ⟨m, hm⟩ := Option.isSome_iff_exists.mp (hread rfl)
    simp only [resolve, hm]
    exact raises_resolveRM r m c p
  | G c =>
    obtain ⟨m, hm⟩ := Option.isSome_iff_exists.mp (hread rfl)
    simp only [resolve, hm]
    trivial
  | I c =>
    have hshort := raises_readSized (buf := buf) (immWidth_bytes_le c r.eos) p
    exact (hshort.mono fun _ _ => ShortRead.reachable).bind fun _ _ _ => trivial
  | O c | Fixed q | Family f c | Seg q => trivial

theorem raises_operands {r : Ready} {w : Width} {ts : List Template} (h : ∀ t ∈ ts, Resolvable r w t)
    (ops : List ResolvedOperand) (p : Nat) : (operands buf r ts ops p).Raises Reachable := by
  induction ts generalizing ops p with
  | nil => trivial
  | cons t ts ih =>
    refine (raises_resolve (h t List.mem_cons_self) ops p).bind fun o p _ => ?_
    exact ih (fun t ht => h t (List.mem_cons_of_mem _ ht)) _ p

/-- From a well-formed entry on, InvalidModRM is not raised, wherever the cursor stands (60_exceptions.md R408). -/
theorem raises_fromEntry {opbytes : List Byte} {e : Entry} (he : entryFits opbytes e = true) (start : Nat) (mode : CpuMode)
    (ps : List Prefix) (rex : Option Rex) (b : Byte) (p : Nat) :
    (fromEntry buf start mode ps rex b opbytes e p).Raises Reachable := by
  refine ((raises_addressing mode rex e.encoding p).mono fun _ _ => ShortRead.reachable).bind fun a p ha => ?_
  exact (raises_operands (fun _ => resolvable_of_entryFits he (modrm_isSome_of_addressing ha)) [] p).bind fun _ _ _ => trivial

end Txn

end Sys2Proof.Machine

/-! ## What a row can do -/

namespace Sys2Proof.Machine

open Claims Txn

/-- What the opcode lookup guarantees of opcode bytes and entry holds of every row with an entry. -/
theorem entryFits_rowEntry {i : Instr} (h : isEntryRow i = true) :
    entryFits ((encode i).take i.opLen) (rowEntry i) = true := by
  cases i with
  | pushRv r | incRv r | decRv r => exact entryFits_plainEntry _
  | reservedFF7 | escapePrefixOtherThanRep | escapeNoPrefix | escapeRepSecondByte | escapeRepThirdByte | prefixLock | prefixRepNE
  | prefixRep | prefixSegES | prefixSegCS | prefixSegSS | prefixSegDS | prefixSegFS | prefixSegGS | prefixOperandSizeOverride
  | prefixAddressSizeOverride | rex => exact absurd h Bool.false_ne_true
  | _ => rfl

/-- What a row, or a lookup that lacks a byte, can do in any state: end the transaction, with no InvalidModRM, or record a prefix or
a REX byte. -/
inductive RowDoes (s : State) : Out → Prop where
  | ended (g : Got Instruction) (h : g.Raises Reachable) : RowDoes s (.next (s.ended g))
  | legacy (p : Prefix) : RowDoes s (.next ((s.advance 1).pushPrefix p))
  | rex (r : Rex) : RowDoes s (.next ((s.advance 1).setRex r))

theorem RowDoes.error {s : State} {e : DecodeError} (h : e ≠ .invalidModRM) (n : Nat) : RowDoes s (runError n e s) :=
  .ended (.raise e (s.pos + n)) h

theorem runEntry_does {opbytes : List Byte} {e : Entry} (he : entryFits opbytes e = true) (s : State) :
    RowDoes s (runEntry opbytes e.identity e.encoding e.templates s) := by
  cases opbytes with
  | nil => simp [entryFits] at he
  | cons b bs =>
    rw [runEntry_eq]
    exact .ended _ (raises_fromEntry he _ _ _ _ _ _)

theorem runPrefix_does (p : Prefix) (s : State) : RowDoes s (runPrefix p s) := by
  unfold runPrefix
  split
  · exact .error DecodeError.noConfusion 1
  · split
    · exact .error DecodeError.noConfusion 1
    · exact .legacy p

theorem runRex_does (r : Rex) (s : State) : RowDoes s (runRex r s) := by
  unfold runRex
  split
  · exact .error DecodeError.noConfusion 1
  · exact .rex r

theorem exec_does (i : Instr) (s : State) : RowDoes s (exec i s) := by
  cases row_cases i with
  | entry h =>
    rw [exec_entry i h]
    exact runEntry_does (entryFits_rowEntry h) s
  | error err run reachable =>
    rw [run]
    exact .error (reachable _) _
  | legacy p run bytes =>
    rw [run]
    exact runPrefix_does p s
  | rex r run bytes =>
    rw [run]
    exact runRex_does r s

theorem runReject_does (r : Reject) (s : State) : RowDoes s (runReject r s) := by
  cases r with
  | notEnoughBytes n => exact .error DecodeError.noConfusion n

theorem lookupAndRun_rowDoes (s : State) : RowDoes s (lookupAndRun s) := by
  unfold lookupAndRun
  split
  · exact exec_does _ s
  · exact runReject_does _ s

namespace RowDoes

variable {s t : State} {out : Out}

theorem answers_next (h : RowDoes s out) : ∃ t, out = .next t := by
  cases h with
  | ended g | legacy p | rex r => exact ⟨_, rfl⟩

/-- A result that is an error is handed over by failing with it, and it is not InvalidModRM. -/
theorem eq_failed (h : RowDoes s (.next t)) {e : DecodeError} {p : Nat} (ht : t.results = .error e p :: s.results) :
    t = s.failed e p ∧ e ≠ .invalidModRM := by
  cases h with
  | ended g hg =>
    cases g with
    | ok ins q => cases ht
    | raise e' q =>
      cases ht
      exact ⟨rfl, hg⟩
  | legacy p => exact absurd ht.symm (List.cons_ne_self _ _)
  | rex r => exact absurd ht.symm (List.cons_ne_self _ _)

end RowDoes

/-- Settles O34: a row ends the transaction with an error that can be raised, or hands no error over. -/
theorem invalidModRMIsNeverRaised : Obligations.InvalidModRMIsNeverRaised := by
  intro i s t p h ht
  have hdoes := exec_does i s
  rw [h] at hdoes
  exact (hdoes.eq_failed ht).2 rfl

/-- Settles O35: an ended transaction has its result and the initial transient state; a recorded prefix or REX byte is one byte and
leaves the other transient fields. -/
theorem everyRowAnswersNextWithItsFrame : Obligations.EveryRowAnswersNextWithItsFrame := by
  intro i s
  have hdoes := exec_does i s
  obtain ⟨t, ht⟩ := hdoes.answers_next
  rw [ht] at hdoes
  refine ⟨t, ht, ?_⟩
  cases hdoes with
  | ended g =>
    cases g with
    | ok ins p => exact ⟨rfl, fun _ => rfl, rfl, rfl, .inr ⟨rfl, .instruction ins p, rfl, rfl⟩⟩
    | raise e p => exact ⟨rfl, fun _ => rfl, rfl, rfl, .inr ⟨rfl, .error e p, rfl, rfl⟩⟩
  | legacy p | rex r => exact ⟨rfl, fun _ => rfl, rfl, rfl, .inl ⟨rfl, rfl, rfl⟩⟩

end Sys2Proof.Machine

/-! ## What the stages of the pipeline leave unchanged -/

namespace Sys2Proof.Machine

/-- The two states differ in the cursor and the transient fields only. -/
def State.Moves (s s' : State) : Prop := s' = s.goto s'.pos s'.tx

theorem State.Moves.trans {s s' s'' : State} (h : s.Moves s') (h' : s'.Moves s'') : s.Moves s'' := by
  unfold State.Moves at *
  rw [h', h]
  rfl

/-- A stage run from `s` moves the cursor and writes transient fields only, whether it gives a value or raises an error. -/
def Flow.Moves {α : Type} (s : State) : Flow α → Prop
  | .ok _ s' => s.Moves s'
  | .raise _ s' => s.Moves s'
  | .fault _ => True

theorem Flow.Moves.of_moves {α : Type} {s s' : State} {x : Flow α} (hx : x.Moves s') (h : s.Moves s') : x.Moves s := by
  cases x with
  | ok a s'' | raise e s'' => exact State.Moves.trans h hx
  | fault f => trivial

theorem Flow.Moves.bind {α β : Type} {s : State} {x : Flow α} {k : α → State → Flow β} (h : x.Moves s)
    (hk : ∀ a s', (k a s').Moves s') : (x.bind k).Moves s := by
  cases x with
  | ok a s' => exact (hk a s').of_moves h
  | raise e s' => exact h
  | fault f => trivial

section

variable (s : State)

theorem readable_moves {α : Type} (f : TxField) (v : Option α) : (readable f v s).Moves s := by
  cases v with
  | some a => exact rfl
  | none => trivial

theorem read8_moves : (read8 s).Moves s := by
  unfold read8
  split <;> exact rfl

theorem readSized_moves (w : Width) : (readSized w s).Moves s := by
  have hread : (readN w.bytes s).Moves s := by
    unfold readN
    split <;> exact rfl
  exact hread.bind fun _ _ => rfl

theorem sibStage_moves (m : ModRM) : (sibStage m s).Moves s := by
  unfold sibStage
  split
  · exact (read8_moves s).bind fun _ _ => rfl
  all_goals exact rfl

theorem dispStage_moves (m : ModRM) (sib : Option Sib) : (dispStage m sib s).Moves s := by
  unfold dispStage
  split
  · exact (readSized_moves s _).bind fun _ _ => rfl
  · exact rfl

theorem modrmStage_moves : (modrmStage s).Moves s := by
  refine (read8_moves s).bind fun b s => ?_
  refine Flow.Moves.bind (sibStage_moves (s.setModRM _) _) fun sib s => ?_
  exact (dispStage_moves s _ sib).bind fun _ _ => rfl

theorem regOperand_moves (n : BitVec 4) (w : Width) : (regOperand n w s).Moves s := by
  unfold regOperand
  split
  · exact rfl
  · trivial

theorem needModRM_moves : (needModRM s).Moves s := by
  unfold needModRM
  split <;> exact rfl

theorem resolveRM_moves (c : SizeClass) : (resolveRM c s).Moves s := by
  refine (needModRM_moves s).bind fun m s => ?_
  refine (readable_moves s _ _).bind fun eos s => ?_
  split
  · exact regOperand_moves s _ _
  · refine (readable_moves s _ _).bind fun eas s => ?_
    split <;> exact rfl

theorem resolve_moves (T : Template) : (resolve T s).Moves s := by
  cases T with
  | E c | M c => exact resolveRM_moves s c
  | G c =>
    refine (needModRM_moves s).bind fun m s => ?_
    exact (readable_moves s _ _).bind fun eos s => regOperand_moves s _ _
  | I c =>
    refine (readable_moves s _ _).bind fun eos s => ?_
    exact (readSized_moves s _).bind fun _ _ => rfl
  | O c =>
    refine (readable_moves s _ _).bind fun b s => ?_
    exact (readable_moves s _ _).bind fun eos s => regOperand_moves s _ _
  | Family f c => exact (readable_moves s _ _).bind fun _ _ => rfl
  | Fixed q | Seg q => exact rfl

theorem resolveAll_moves (Ts : List Template) : (resolveAll Ts s).Moves s := by
  induction Ts generalizing s with
  | nil => exact rfl
  | cons T Ts ih => exact (resolve_moves s T).bind fun o s => ih (s.pushOp o)

theorem fromDone_moves : (fromDone s).Moves s := by
  refine (readable_moves s _ _).bind fun e s => ?_
  exact (readable_moves s _ _).bind fun _ _ => rfl

theorem fromResolving_moves : (fromResolving s).Moves s := by
  refine (readable_moves s _ _).bind fun e s => ?_
  exact (resolveAll_moves s _).bind fun _ s => fromDone_moves (s.setStage .done)

theorem fromHaveModRM_moves : (fromHaveModRM s).Moves s :=
  fromResolving_moves (s.setSizes (eosOf s.mode s.tx.prefixes s.tx.rex) (easOf s.mode s.tx.prefixes))

theorem fromHaveOpcode_moves : (fromHaveOpcode s).Moves s := by
  refine (readable_moves s _ _).bind fun e s => ?_
  split
  · exact (modrmStage_moves s).bind fun _ s => fromHaveModRM_moves s
  · exact fromHaveModRM_moves s

end

/-! ## A failed transaction -/

section

variable {s t : State} {e : DecodeError} {p : Nat}

/-- A resumed transaction that hands over an error changes nothing but the position and the transient fields. -/
theorem Flow.Moves.eq_failed {x : Flow Instruction} (hx : x.Moves s) (h : x.outcome = .next t)
    (ht : t.results = .error e p :: s.results) : t = s.failed e p := by
  cases x with
  | ok ins s' =>
    cases h
    cases ht
  | raise e' s' =>
    cases h
    unfold Flow.Moves State.Moves at hx
    rw [hx] at ht ⊢
    cases ht
    rfl
  | fault f => cases h

/-- What is left of a transaction that stands past its lookup is one of the four stages (40_decode_pipeline.md R130). -/
theorem resume_moves {out : Out} (h : resume s = some out) : ∃ x : Flow Instruction, x.Moves s ∧ out = x.outcome := by
  unfold resume at h
  split at h <;> cases h
  · exact ⟨_, fromHaveOpcode_moves s, rfl⟩
  · exact ⟨_, fromHaveModRM_moves s, rfl⟩
  · exact ⟨_, fromResolving_moves s, rfl⟩
  · exact ⟨_, fromDone_moves s, rfl⟩

theorem stepInside_eq_failed (h : stepInside s = .next t) (ht : t.results = .error e p :: s.results) : t = s.failed e p := by
  unfold stepInside at h
  cases hr : resume s with
  | some out =>
    rw [hr] at h
    obtain ⟨x, hx, rfl⟩ := resume_moves hr
    exact hx.eq_failed h ht
  | none =>
    rw [hr] at h
    have hdoes := lookupAndRun_rowDoes s
    rw [show lookupAndRun s = .next t from h] at hdoes
    exact (hdoes.eq_failed ht).1

/-- With no call to begin, a step that answers next is one inside a transaction. -/
theorem stepInside_of_step (hc : s.atStart = true → s.calls = []) (h : step s = .next t) : stepInside s = .next t := by
  unfold step takeCall at h
  by_cases hs : s.atStart = true
  · rw [if_pos hs, hc hs] at h
    by_cases hl : s.pos ≤ s.buf.len
    · simpa only [if_pos hl] using h
    · simp only [if_neg hl, reduceCtorEq] at h
  · simpa only [if_neg hs] using h

end

/-- Settles O36: a row by what it can do; a step is a lookup or the rest of a transaction, which moves the cursor and writes transient
fields only. -/
theorem anErrorChangesOnlyThePosition : Obligations.AnErrorChangesOnlyThePosition := by
  rintro s t e p ht (⟨i, hi⟩ | ⟨hc, hs⟩)
  · have hdoes := exec_does i s
    rw [hi] at hdoes
    exact (hdoes.eq_failed ht).1
  · exact stepInside_eq_failed (stepInside_of_step hc hs) ht

/-! ## Every step answers -/

/-- Between two steps a transaction stands before its opcode (log 1). -/
theorem Inv.stage_eq {s : State} (h : Inv s) : s.tx.stage = .awaitingOpcode ∨ s.tx.stage = .haveRex := by
  rw [h.tx_scanned]
  cases s.tx.rex with
  | none => exact .inl rfl
  | some r => exact .inr rfl

/-- Settles O11: the step is a lookup, at the start of the pending call or at the cursor, which the invariant keeps inside the
buffer. -/
theorem stepAnswersNext : Obligations.StepAnswersNext := by
  intro s h hcalls
  by_cases hpending : s.atStart = true ∧ s.calls ≠ []
  · obtain ⟨hs, hne⟩ := hpending
    obtain ⟨c, rest, hc⟩ := List.exists_cons_of_ne_nil hne
    have hl := hcalls c (by rw [hc]; exact List.mem_cons_self)
    rw [step_begins_call hs hc hl]
    exact (lookupAndRun_rowDoes _).answers_next
  · have hnone : s.atStart = true → s.calls = [] := fun hs => not_not.mp fun hne => hpending ⟨hs, hne⟩
    rw [step_lookup h.stage_eq fun hs => ⟨hnone hs, h.pos_le⟩]
    exact (lookupAndRun_rowDoes s).answers_next

/-- Settles O9: the lookup has consumed all the unread bytes when it lacks one. -/
theorem lookupPastTheEndRaises : Obligations.LookupPastTheEndRaises := by
  intro s r hstage hl hc hd
  obtain rfl := decode_error hd
  rw [← decode_fetch] at hd
  rw [step_lookup hstage fun hs => ⟨hc hs, hl⟩]
  simp only [lookupAndRun, hd, runReject, runError_eq, Memory.bytesAt_length, Nat.add_sub_cancel' hl]

end Sys2Proof.Machine

/-! ## Bytes that run past the buffer -/

namespace Sys2Proof.Machine

open Claims Txn

/-- Settles O30: the row fails where its addressing bytes do, and they fail only for want of bytes. -/
theorem shortAddressingBytesRaise : Obligations.ShortAddressingBytesRaise := by
  intro x hx s e p ha
  obtain ⟨-, -, -, henc, -⟩ := rowsModRM_entry x hx
  have hshort := raises_addressing (buf := s.buf) s.mode s.tx.rex .MR (s.pos + 1)
  rw [ha] at hshort
  rw [addressing_of_hasModRM rfl henc] at ha
  rw [exec_rowModRM hx]
  exact ⟨runEntry_short s x.2.1 _ _ _ ha, hshort⟩

/-- Whether there is an r/m operand does not depend on the width it is asked for (40_decode_pipeline.md R151). -/
theorem rmOperand_of_ne_none {s : State} {m : ModRM} {sib : Option Sib} {disp : Option Displacement} {w : Width}
    (h : s.rmOperand m sib disp w ≠ none) (w' : Width) : ∃ o, s.rmOperand m sib disp w' = some o := by
  refine Option.ne_none_iff_exists'.mp fun h' => h ?_
  unfold State.rmOperand at h' ⊢
  split at h'
  · cases h'
  · split_ifs at h' ⊢
    · rw [Option.map_eq_none_iff] at h' ⊢
      exact h'
    · rfl

/-- A row with an r/m operand and then an immediate fails behind the addressing bytes when the immediate runs past the buffer. -/
theorem RowIs.failed_rm_imm {x : Instr × Byte × OpcodeIdentity} {c c' : SizeClass} (hx : RowIs x .MI [.E c, .I c'])
    {s : State} {m : ModRM} {sib : Option Sib} {disp : Option Displacement} {p : Nat}
    (ha : addressing s.buf s.mode s.tx.rex .MI (s.pos + 1) = .ok ⟨some m, sib, disp⟩ p)
    (ho : s.rmOperand m sib disp .w8 ≠ none) (hv : s.buf.value? p (immWidth c' s.eos).bytes = none) :
    exec x.1 s = .next (s.failed (.notEnoughBytes (immWidth c' s.eos).bytes) p) := by
  obtain ⟨o, ho⟩ := rmOperand_of_ne_none ho (classWidth c s.eos)
  refine hx.failed ha ?_
  simp only [operands, resolve_rm List.mem_cons_self ho, resolve_I_of_short hv, Got.ok_bind, Got.raise_bind]

/-- Settles O32: the r/m operand resolves, and the immediate after it is one byte or as long as eos selects. -/
theorem shortImmediatesRaise : Obligations.ShortImmediatesRaise := by
  intro s m sib disp p ha ho
  refine ⟨fun x hx hv => ?_, fun x hx hv => ?_⟩
  · rcases List.mem_append.mp hx with hx | hx
    · exact (rowsEbIb_are x hx).failed_rm_imm ha ho hv
    · exact (rowsEvIb_are x hx).failed_rm_imm ha ho hv
  · rw [← bytes_immWidth_Z] at hv ⊢
    exact (rowsEvIz_are x hx).failed_rm_imm ha ho hv

end Sys2Proof.Machine

/-! ## Reset, and a call that cannot begin -/

namespace Sys2Proof.Machine

theorem takeCall_of_pending {s : State} {c : Call} {rest : List Call} (hs : s.atStart = true) (hc : s.calls = c :: rest) :
    takeCall s = beginCall c rest s := by
  rw [takeCall, if_pos hs, hc]

theorem beginCall_beyond_buffer {c : Call} {s : State} (rest : List Call) (h : (c.buf.getD s.buf).len < c.start) :
    beginCall c rest s = .refused (.startBeyondBuffer c.start (c.buf.getD s.buf).len) :=
  if_neg (Nat.not_le.mpr h)

/-- Settles O10: the step begins with the pending call, and a refusal to begin it is the step's answer. -/
theorem startBeyondBufferIsRefused : Obligations.StartBeyondBufferIsRefused := by
  intro s c rest hs hc h
  rw [step, takeCall_of_pending hs hc, beginCall_beyond_buffer rest h]

/-- Reset stands between two transactions (70_reset_and_hazards.md R450). -/
theorem State.reset_tx : State.reset.tx = Transient.init State.reset.pos := rfl

/-- Settles O56: reset stands between two transactions, where the invariant asks only of buffer, calls, position and results; it
has no calls and no results. -/
theorem invariantHoldsAtReset : Obligations.InvariantHoldsAtReset :=
  Inv.idle State.reset_tx (rfl : State.reset.buf.wf = true) (fun _ hc => absurd hc List.not_mem_nil) (Nat.zero_le _)
    (fun _ hr => absurd hr List.not_mem_nil)

/-- Settles O60: the transient state of reset is the initial one at its position, field by field. -/
theorem resetLeavesTheInitialTransaction : Obligations.ResetLeavesTheInitialTransaction := by
  unfold Obligations.ResetLeavesTheInitialTransaction
  rw [atStart_iff, State.reset_tx]
  exact ⟨rfl, rfl, rfl, rfl, rfl, rfl, rfl, rfl, rfl, rfl, rfl, rfl, rfl, rfl⟩

end Sys2Proof.Machine
